-- ==== Sys2Proof/Config.lean ====
section
/-! DEFINITION. The constants of rule R3 (spec/00_scope.md) and the parameters of rule R4 at the value the spec takes.
Where the spec records an alternative value for a parameter of R4, the alternative is written beside it (log 18). -/

namespace Sys2Proof.Config

/-- R3: width of a Sample position, unsigned. -/
def POS_BITS : Nat := 64

/-- R3: clock, command, DAT0 to DAT3. -/
def N_LINES : Nat := 6

/-- R3: legal numbers of active data lines. -/
def DATA_LINE_COUNTS : List Nat := [0, 1, 4]

/-- R3: a command pulse is accepted only if its width is strictly greater than this. -/
def MIN_PULSE : Nat := 1

/-- R3: CommandField length in bus cycles. -/
def CMD_FIELD_BITS : Nat := 6

/-- R3: normal ArgumentField length. -/
def ARG_BITS : Nat := 32

/-- R3: the long ("R2") response length class. -/
def LONG_RESP_BITS : Nat := 136

/-- R3: CRC7 field length. -/
def CRC7_BITS : Nat := 7

/-- R3: a command or normal response on the bus: 1 + 1 + 6 + 32 + 7 + 1. -/
def CMD_FRAME_BITS : Nat := 48

/-- R3: the host command that makes the next host command a candidate ACMD. -/
def APP_CMD_PREFIX : BitVec 6 := 55

/-- R3: the reserved SD-card ACMD indices (24 values). -/
def ACMD_SET : List (BitVec 6) :=
  [6, 13, 17, 18, 19, 20, 21, 22, 23, 24, 25, 38, 39, 40, 41, 42, 43, 44, 45, 46, 47, 48, 49, 51]

/-- R3: host commands whose response is long. -/
def LONG_RESP_CMDS : List (BitVec 6) := [2, 9, 10]

/-- R3: byte-units of payload per data block. -/
def BLOCK_DATA_UNITS : Nat := 512

/-- R3: byte-units of CRC16 trailer per data block. -/
def BLOCK_CRC_UNITS : Nat := 2

/-- R3: the count at which a data packet closes. -/
def BLOCK_UNITS : Nat := BLOCK_DATA_UNITS + BLOCK_CRC_UNITS

/-- R3: width of each payload word of a Decoded Frame. -/
def WORD_BITS : Nat := 64

/-- R3: width of the flag/context byte of a Decoded Frame. -/
def FLAG_BITS : Nat := 8

/-- R3: precondition on the capture, used by no rule (R148). -/
def MIN_SAMPLE_RATE_HZ : Nat := 1000000

/-- R4, D17: bus cycles sampled in ArgumentField for a long response (the recorded alternative is 136). -/
def LONG_ARG_CYCLES : Nat := 127

/-- R4, D18: width of the FSM shift accumulator. -/
def ACC_BITS : Nat := 64

/-- R4, D15: which clock edge is the FSM cycle midpoint. -/
inductive FsmMidpoint where
  | sampleEdge
  | opposite
deriving DecidableEq, Repr

/-- R4, D8: how the clock is aligned after a data start. -/
inductive DataAlignMode where
  | twoEdgesThenFix
  | sampleEdgeThenTwo
deriving DecidableEq, Repr

/-- R4, D9: which data line is the most significant of a 4-bit group. -/
inductive MsbLine where
  | dat3
  | dat0
deriving DecidableEq, Repr

/-- R4, D15: the value taken. -/
def FSM_MIDPOINT : FsmMidpoint := .sampleEdge

/-- R4, D8: the value taken. -/
def DATA_ALIGN_MODE : DataAlignMode := .twoEdgesThenFix

/-- R4, D9: the value taken. -/
def MSB_LINE : MsbLine := .dat3

end Sys2Proof.Config
end

