-- ==== Sys2Proof/Word.lean ====
section
/-! DEFINITION. The words of the block: payload words and byte-units (spec/00_scope.md section 5). A sample position
(SamplePos) is a natural number: R37 and D31 say that no operation of the block overflows or goes negative (log 10). -/

namespace Sys2Proof

/-- A payload word or an FSM accumulator (R8, R52). -/
abbrev Word64 := BitVec 64

/-- A byte-unit or a flag byte (R20, R52). -/
abbrev Byte := BitVec 8

end Sys2Proof
end

