-- ==== Sys2Proof/Syntax.lean ====
section
/-! DEFINITION. The control-state enumerations (R6, R7, R56), the units a decoder reads (R46 to R50, R59) and the
instruction type: one constructor per row of spec/opcode_table.json (R63). -/

namespace Sys2Proof

/-- The driver's bus phase (R6, R56). -/
inductive Phase where
  | findCmdStart
  | findDataStart
  | readData
  | analyzeCommand
  | terminated
deriving DecidableEq, Repr

/-- The Frame State Machine's sub-state (R7, R56). -/
inductive FrameState where
  | startBit
  | direction
  | commandField
  | argumentField
  | crc7
  | stop
deriving DecidableEq, Repr

/-- What a decoder of R59 is given: a control word `phase ++ frame_state`, a whole bus frame of the CMD line
(`B[N-1]` the most significant bit), or one byte-unit of the data lines. -/
inductive BusUnit where
  | control (cw : BitVec 6)
  | frame48 (w : BitVec 48)
  | frame136 (w : BitVec 136)
  | unit1 (d : Byte)
  | unit4 (d : Byte)
deriving DecidableEq, Repr

/-- The instructions: control rows with the don't-care `frame_state` bits where the row has them, host commands and
application commands with argument, CRC7 and stop bit, responses, and byte-units. -/
inductive Instr where
  | locate (sss : BitVec 3)
  | arbitrate (sss : BitVec 3)
  | extractByte (sss : BitVec 3)
  | fsmStartBit
  | fsmDirection
  | fsmCommandField
  | fsmArgumentField
  | fsmCrc7
  | fsmStop
  | halt (sss : BitVec 3)
  | acmd6 (arg : BitVec 32) (crc : BitVec 7) (stop : BitVec 1)
  | acmd13 (arg : BitVec 32) (crc : BitVec 7) (stop : BitVec 1)
  | acmd17 (arg : BitVec 32) (crc : BitVec 7) (stop : BitVec 1)
  | acmd18 (arg : BitVec 32) (crc : BitVec 7) (stop : BitVec 1)
  | acmd19 (arg : BitVec 32) (crc : BitVec 7) (stop : BitVec 1)
  | acmd20 (arg : BitVec 32) (crc : BitVec 7) (stop : BitVec 1)
  | acmd21 (arg : BitVec 32) (crc : BitVec 7) (stop : BitVec 1)
  | acmd22 (arg : BitVec 32) (crc : BitVec 7) (stop : BitVec 1)
  | acmd23 (arg : BitVec 32) (crc : BitVec 7) (stop : BitVec 1)
  | acmd24 (arg : BitVec 32) (crc : BitVec 7) (stop : BitVec 1)
  | acmd25 (arg : BitVec 32) (crc : BitVec 7) (stop : BitVec 1)
  | acmd38 (arg : BitVec 32) (crc : BitVec 7) (stop : BitVec 1)
  | acmd39 (arg : BitVec 32) (crc : BitVec 7) (stop : BitVec 1)
  | acmd40 (arg : BitVec 32) (crc : BitVec 7) (stop : BitVec 1)
  | acmd41 (arg : BitVec 32) (crc : BitVec 7) (stop : BitVec 1)
  | acmd42 (arg : BitVec 32) (crc : BitVec 7) (stop : BitVec 1)
  | acmd43 (arg : BitVec 32) (crc : BitVec 7) (stop : BitVec 1)
  | acmd44 (arg : BitVec 32) (crc : BitVec 7) (stop : BitVec 1)
  | acmd45 (arg : BitVec 32) (crc : BitVec 7) (stop : BitVec 1)
  | acmd46 (arg : BitVec 32) (crc : BitVec 7) (stop : BitVec 1)
  | acmd47 (arg : BitVec 32) (crc : BitVec 7) (stop : BitVec 1)
  | acmd48 (arg : BitVec 32) (crc : BitVec 7) (stop : BitVec 1)
  | acmd49 (arg : BitVec 32) (crc : BitVec 7) (stop : BitVec 1)
  | acmd51 (arg : BitVec 32) (crc : BitVec 7) (stop : BitVec 1)
  | cmd0 (arg : BitVec 32) (crc : BitVec 7) (stop : BitVec 1)
  | cmd1 (arg : BitVec 32) (crc : BitVec 7) (stop : BitVec 1)
  | cmd2 (arg : BitVec 32) (crc : BitVec 7) (stop : BitVec 1)
  | cmd3 (arg : BitVec 32) (crc : BitVec 7) (stop : BitVec 1)
  | cmd4 (arg : BitVec 32) (crc : BitVec 7) (stop : BitVec 1)
  | cmd5 (arg : BitVec 32) (crc : BitVec 7) (stop : BitVec 1)
  | cmd6 (arg : BitVec 32) (crc : BitVec 7) (stop : BitVec 1)
  | cmd7 (arg : BitVec 32) (crc : BitVec 7) (stop : BitVec 1)
  | cmd8 (arg : BitVec 32) (crc : BitVec 7) (stop : BitVec 1)
  | cmd9 (arg : BitVec 32) (crc : BitVec 7) (stop : BitVec 1)
  | cmd10 (arg : BitVec 32) (crc : BitVec 7) (stop : BitVec 1)
  | cmd11 (arg : BitVec 32) (crc : BitVec 7) (stop : BitVec 1)
  | cmd12 (arg : BitVec 32) (crc : BitVec 7) (stop : BitVec 1)
  | cmd13 (arg : BitVec 32) (crc : BitVec 7) (stop : BitVec 1)
  | cmd14 (arg : BitVec 32) (crc : BitVec 7) (stop : BitVec 1)
  | cmd15 (arg : BitVec 32) (crc : BitVec 7) (stop : BitVec 1)
  | cmd16 (arg : BitVec 32) (crc : BitVec 7) (stop : BitVec 1)
  | cmd17 (arg : BitVec 32) (crc : BitVec 7) (stop : BitVec 1)
  | cmd18 (arg : BitVec 32) (crc : BitVec 7) (stop : BitVec 1)
  | cmd19 (arg : BitVec 32) (crc : BitVec 7) (stop : BitVec 1)
  | cmd20 (arg : BitVec 32) (crc : BitVec 7) (stop : BitVec 1)
  | cmd21 (arg : BitVec 32) (crc : BitVec 7) (stop : BitVec 1)
  | cmd22 (arg : BitVec 32) (crc : BitVec 7) (stop : BitVec 1)
  | cmd23 (arg : BitVec 32) (crc : BitVec 7) (stop : BitVec 1)
  | cmd24 (arg : BitVec 32) (crc : BitVec 7) (stop : BitVec 1)
  | cmd25 (arg : BitVec 32) (crc : BitVec 7) (stop : BitVec 1)
  | cmd26 (arg : BitVec 32) (crc : BitVec 7) (stop : BitVec 1)
  | cmd27 (arg : BitVec 32) (crc : BitVec 7) (stop : BitVec 1)
  | cmd28 (arg : BitVec 32) (crc : BitVec 7) (stop : BitVec 1)
  | cmd29 (arg : BitVec 32) (crc : BitVec 7) (stop : BitVec 1)
  | cmd30 (arg : BitVec 32) (crc : BitVec 7) (stop : BitVec 1)
  | cmd31 (arg : BitVec 32) (crc : BitVec 7) (stop : BitVec 1)
  | cmd32 (arg : BitVec 32) (crc : BitVec 7) (stop : BitVec 1)
  | cmd33 (arg : BitVec 32) (crc : BitVec 7) (stop : BitVec 1)
  | cmd34 (arg : BitVec 32) (crc : BitVec 7) (stop : BitVec 1)
  | cmd35 (arg : BitVec 32) (crc : BitVec 7) (stop : BitVec 1)
  | cmd36 (arg : BitVec 32) (crc : BitVec 7) (stop : BitVec 1)
  | cmd37 (arg : BitVec 32) (crc : BitVec 7) (stop : BitVec 1)
  | cmd38 (arg : BitVec 32) (crc : BitVec 7) (stop : BitVec 1)
  | cmd39 (arg : BitVec 32) (crc : BitVec 7) (stop : BitVec 1)
  | cmd40 (arg : BitVec 32) (crc : BitVec 7) (stop : BitVec 1)
  | cmd41 (arg : BitVec 32) (crc : BitVec 7) (stop : BitVec 1)
  | cmd42 (arg : BitVec 32) (crc : BitVec 7) (stop : BitVec 1)
  | cmd43 (arg : BitVec 32) (crc : BitVec 7) (stop : BitVec 1)
  | cmd44 (arg : BitVec 32) (crc : BitVec 7) (stop : BitVec 1)
  | cmd45 (arg : BitVec 32) (crc : BitVec 7) (stop : BitVec 1)
  | cmd46 (arg : BitVec 32) (crc : BitVec 7) (stop : BitVec 1)
  | cmd47 (arg : BitVec 32) (crc : BitVec 7) (stop : BitVec 1)
  | cmd48 (arg : BitVec 32) (crc : BitVec 7) (stop : BitVec 1)
  | cmd49 (arg : BitVec 32) (crc : BitVec 7) (stop : BitVec 1)
  | cmd50 (arg : BitVec 32) (crc : BitVec 7) (stop : BitVec 1)
  | cmd51 (arg : BitVec 32) (crc : BitVec 7) (stop : BitVec 1)
  | cmd52 (arg : BitVec 32) (crc : BitVec 7) (stop : BitVec 1)
  | cmd53 (arg : BitVec 32) (crc : BitVec 7) (stop : BitVec 1)
  | cmd54 (arg : BitVec 32) (crc : BitVec 7) (stop : BitVec 1)
  | cmd55 (arg : BitVec 32) (crc : BitVec 7) (stop : BitVec 1)
  | cmd56 (arg : BitVec 32) (crc : BitVec 7) (stop : BitVec 1)
  | cmd57 (arg : BitVec 32) (crc : BitVec 7) (stop : BitVec 1)
  | cmd58 (arg : BitVec 32) (crc : BitVec 7) (stop : BitVec 1)
  | cmd59 (arg : BitVec 32) (crc : BitVec 7) (stop : BitVec 1)
  | cmd60 (arg : BitVec 32) (crc : BitVec 7) (stop : BitVec 1)
  | cmd61 (arg : BitVec 32) (crc : BitVec 7) (stop : BitVec 1)
  | cmd62 (arg : BitVec 32) (crc : BitVec 7) (stop : BitVec 1)
  | cmd63 (arg : BitVec 32) (crc : BitVec 7) (stop : BitVec 1)
  | rsp (idx : BitVec 6) (arg : BitVec 32) (crc : BitVec 7) (stop : BitVec 1)
  | rspLong (idx : BitVec 6) (hi : BitVec 64) (lo : BitVec 63) (stop : BitVec 1)
  | data1 (d : Byte)
  | data4 (d : Byte)
deriving DecidableEq, Repr

end Sys2Proof
end

