-- ==== Sys2Proof/WellFormed.lean ====
section
/-! DEFINITION. Well-formed instructions: the don't-care bits of a control word hold a `frame_state` code (R56, R59);
every other operand is of the exact width of its field, so every value of it is admitted (R46 to R50). -/

namespace Sys2Proof

/-- R56, R59: `sss` is any `frame_state` value; the codes 6 and 7 name none. -/
def namesFrameState (sss : BitVec 3) : Bool := sss.toNat < 6

/-- Every operand is one its row admits. -/
def Instr.wf : Instr → Bool
  | .locate sss => namesFrameState sss
  | .arbitrate sss => namesFrameState sss
  | .extractByte sss => namesFrameState sss
  | .fsmStartBit => true
  | .fsmDirection => true
  | .fsmCommandField => true
  | .fsmArgumentField => true
  | .fsmCrc7 => true
  | .fsmStop => true
  | .halt sss => namesFrameState sss
  | .acmd6 _ _ _ => true
  | .acmd13 _ _ _ => true
  | .acmd17 _ _ _ => true
  | .acmd18 _ _ _ => true
  | .acmd19 _ _ _ => true
  | .acmd20 _ _ _ => true
  | .acmd21 _ _ _ => true
  | .acmd22 _ _ _ => true
  | .acmd23 _ _ _ => true
  | .acmd24 _ _ _ => true
  | .acmd25 _ _ _ => true
  | .acmd38 _ _ _ => true
  | .acmd39 _ _ _ => true
  | .acmd40 _ _ _ => true
  | .acmd41 _ _ _ => true
  | .acmd42 _ _ _ => true
  | .acmd43 _ _ _ => true
  | .acmd44 _ _ _ => true
  | .acmd45 _ _ _ => true
  | .acmd46 _ _ _ => true
  | .acmd47 _ _ _ => true
  | .acmd48 _ _ _ => true
  | .acmd49 _ _ _ => true
  | .acmd51 _ _ _ => true
  | .cmd0 _ _ _ => true
  | .cmd1 _ _ _ => true
  | .cmd2 _ _ _ => true
  | .cmd3 _ _ _ => true
  | .cmd4 _ _ _ => true
  | .cmd5 _ _ _ => true
  | .cmd6 _ _ _ => true
  | .cmd7 _ _ _ => true
  | .cmd8 _ _ _ => true
  | .cmd9 _ _ _ => true
  | .cmd10 _ _ _ => true
  | .cmd11 _ _ _ => true
  | .cmd12 _ _ _ => true
  | .cmd13 _ _ _ => true
  | .cmd14 _ _ _ => true
  | .cmd15 _ _ _ => true
  | .cmd16 _ _ _ => true
  | .cmd17 _ _ _ => true
  | .cmd18 _ _ _ => true
  | .cmd19 _ _ _ => true
  | .cmd20 _ _ _ => true
  | .cmd21 _ _ _ => true
  | .cmd22 _ _ _ => true
  | .cmd23 _ _ _ => true
  | .cmd24 _ _ _ => true
  | .cmd25 _ _ _ => true
  | .cmd26 _ _ _ => true
  | .cmd27 _ _ _ => true
  | .cmd28 _ _ _ => true
  | .cmd29 _ _ _ => true
  | .cmd30 _ _ _ => true
  | .cmd31 _ _ _ => true
  | .cmd32 _ _ _ => true
  | .cmd33 _ _ _ => true
  | .cmd34 _ _ _ => true
  | .cmd35 _ _ _ => true
  | .cmd36 _ _ _ => true
  | .cmd37 _ _ _ => true
  | .cmd38 _ _ _ => true
  | .cmd39 _ _ _ => true
  | .cmd40 _ _ _ => true
  | .cmd41 _ _ _ => true
  | .cmd42 _ _ _ => true
  | .cmd43 _ _ _ => true
  | .cmd44 _ _ _ => true
  | .cmd45 _ _ _ => true
  | .cmd46 _ _ _ => true
  | .cmd47 _ _ _ => true
  | .cmd48 _ _ _ => true
  | .cmd49 _ _ _ => true
  | .cmd50 _ _ _ => true
  | .cmd51 _ _ _ => true
  | .cmd52 _ _ _ => true
  | .cmd53 _ _ _ => true
  | .cmd54 _ _ _ => true
  | .cmd55 _ _ _ => true
  | .cmd56 _ _ _ => true
  | .cmd57 _ _ _ => true
  | .cmd58 _ _ _ => true
  | .cmd59 _ _ _ => true
  | .cmd60 _ _ _ => true
  | .cmd61 _ _ _ => true
  | .cmd62 _ _ _ => true
  | .cmd63 _ _ _ => true
  | .rsp _ _ _ _ => true
  | .rspLong _ _ _ _ => true
  | .data1 _ => true
  | .data4 _ => true

end Sys2Proof
end

