-- ==== Sys2Proof/Decode.lean ====
section
/-! DEFINITION. The decode map of R59 and R60 (spec/30_encoding.md): the control decoder, the bus-frame decoder with the
one piece of context it uses, and the data formats selected by `n_dat`; then the encoder, written from R46 to R50 and
R63; then the host's view of the decoder, `decodeTableWord`. -/

namespace Sys2Proof

/-- Why a decoder reads no instruction. Only a presented unit can be such a unit; what a step does with it is
`State.runUnmatched` (log 8). -/
inductive DecodeError where
  /-- A control word whose phase code is 5, 6 or 7 (R56, R60, U12). -/
  | reservedPhase
  /-- A control word `011 110` or `011 111` (R56, R60, U12). -/
  | reservedFrameState
  /-- A bus frame whose start bit is 1: "not a frame" (R59 (b), R60). -/
  | notAFrame
  /-- A 48-bit response presented while the last host command is 2, 9 or 10: the frame has 136 bits (R47, R48). -/
  | responseIsLong
  /-- A 136-bit frame presented where R48 does not select the long form. -/
  | frameIsNotLong
  /-- A byte-unit of a format that `n_dat` does not select (R59: the data formats are selected by `n_dat`). -/
  | formatNotSelected
deriving DecidableEq, Repr

/-- What the bus-frame decoder uses besides bits (R59 (b), R61): the last host command and the number of data lines. -/
structure BusContext where
  lastHostCmd : BitVec 6
  lastHostCmdValid : Bool
  nDat : Nat
deriving DecidableEq, Repr

/-- R59 (b), R61 (b): the last host command was CMD55. -/
def BusContext.appPrefix (c : BusContext) : Bool :=
  c.lastHostCmdValid && c.lastHostCmd == Config.APP_CMD_PREFIX

/-- R59 (b), R61 (a): a response is long. -/
def BusContext.longResponse (c : BusContext) : Bool :=
  c.lastHostCmdValid && Config.LONG_RESP_CMDS.contains c.lastHostCmd

/-- The code of a phase (R56). -/
def Phase.code : Phase → BitVec 3
  | .findCmdStart => 0b000
  | .findDataStart => 0b001
  | .readData => 0b010
  | .analyzeCommand => 0b011
  | .terminated => 0b100

/-- The phase of a code; 5 to 7 name none (R56). -/
def Phase.ofCode (c : BitVec 3) : Option Phase :=
  match c.toNat with
  | 0 => some .findCmdStart
  | 1 => some .findDataStart
  | 2 => some .readData
  | 3 => some .analyzeCommand
  | 4 => some .terminated
  | _ => none

/-- The code of a frame sub-state (R56). -/
def FrameState.code : FrameState → BitVec 3
  | .startBit => 0b000
  | .direction => 0b001
  | .commandField => 0b010
  | .argumentField => 0b011
  | .crc7 => 0b100
  | .stop => 0b101

/-- The frame sub-state of a code; 6 and 7 name none (R56). -/
def FrameState.ofCode (c : BitVec 3) : Option FrameState :=
  match c.toNat with
  | 0 => some .startBit
  | 1 => some .direction
  | 2 => some .commandField
  | 3 => some .argumentField
  | 4 => some .crc7
  | 5 => some .stop
  | _ => none

/-- The control word `cw = phase ++ frame_state` (R56). -/
def controlWord (p : Phase) (f : FrameState) : BitVec 6 := p.code ++ f.code

/-- The phase bits of a control word. -/
def controlPhase (cw : BitVec 6) : BitVec 3 := cw.extractLsb' 3 3

/-- The `frame_state` bits of a control word. -/
def controlFrameState (cw : BitVec 6) : BitVec 3 := cw.extractLsb' 0 3

/-- The control decoder (R59 (a)). -/
def decodeControl (cw : BitVec 6) : Except DecodeError Instr :=
  match (controlPhase cw).toNat with
  | 0 => .ok (.locate (controlFrameState cw))
  | 1 => .ok (.arbitrate (controlFrameState cw))
  | 2 => .ok (.extractByte (controlFrameState cw))
  | 3 =>
    match (controlFrameState cw).toNat with
    | 0 => .ok .fsmStartBit
    | 1 => .ok .fsmDirection
    | 2 => .ok .fsmCommandField
    | 3 => .ok .fsmArgumentField
    | 4 => .ok .fsmCrc7
    | 5 => .ok .fsmStop
    | _ => .error .reservedFrameState
  | 4 => .ok (.halt (controlFrameState cw))
  | _ => .error .reservedPhase

/-- The row `CMDn` for the index n (R59 (b), R63). -/
def hostCommand (n : BitVec 6) (arg : BitVec 32) (crc : BitVec 7) (stop : BitVec 1) : Instr :=
  match n.toNat with
  | 0 => .cmd0 arg crc stop
  | 1 => .cmd1 arg crc stop
  | 2 => .cmd2 arg crc stop
  | 3 => .cmd3 arg crc stop
  | 4 => .cmd4 arg crc stop
  | 5 => .cmd5 arg crc stop
  | 6 => .cmd6 arg crc stop
  | 7 => .cmd7 arg crc stop
  | 8 => .cmd8 arg crc stop
  | 9 => .cmd9 arg crc stop
  | 10 => .cmd10 arg crc stop
  | 11 => .cmd11 arg crc stop
  | 12 => .cmd12 arg crc stop
  | 13 => .cmd13 arg crc stop
  | 14 => .cmd14 arg crc stop
  | 15 => .cmd15 arg crc stop
  | 16 => .cmd16 arg crc stop
  | 17 => .cmd17 arg crc stop
  | 18 => .cmd18 arg crc stop
  | 19 => .cmd19 arg crc stop
  | 20 => .cmd20 arg crc stop
  | 21 => .cmd21 arg crc stop
  | 22 => .cmd22 arg crc stop
  | 23 => .cmd23 arg crc stop
  | 24 => .cmd24 arg crc stop
  | 25 => .cmd25 arg crc stop
  | 26 => .cmd26 arg crc stop
  | 27 => .cmd27 arg crc stop
  | 28 => .cmd28 arg crc stop
  | 29 => .cmd29 arg crc stop
  | 30 => .cmd30 arg crc stop
  | 31 => .cmd31 arg crc stop
  | 32 => .cmd32 arg crc stop
  | 33 => .cmd33 arg crc stop
  | 34 => .cmd34 arg crc stop
  | 35 => .cmd35 arg crc stop
  | 36 => .cmd36 arg crc stop
  | 37 => .cmd37 arg crc stop
  | 38 => .cmd38 arg crc stop
  | 39 => .cmd39 arg crc stop
  | 40 => .cmd40 arg crc stop
  | 41 => .cmd41 arg crc stop
  | 42 => .cmd42 arg crc stop
  | 43 => .cmd43 arg crc stop
  | 44 => .cmd44 arg crc stop
  | 45 => .cmd45 arg crc stop
  | 46 => .cmd46 arg crc stop
  | 47 => .cmd47 arg crc stop
  | 48 => .cmd48 arg crc stop
  | 49 => .cmd49 arg crc stop
  | 50 => .cmd50 arg crc stop
  | 51 => .cmd51 arg crc stop
  | 52 => .cmd52 arg crc stop
  | 53 => .cmd53 arg crc stop
  | 54 => .cmd54 arg crc stop
  | 55 => .cmd55 arg crc stop
  | 56 => .cmd56 arg crc stop
  | 57 => .cmd57 arg crc stop
  | 58 => .cmd58 arg crc stop
  | 59 => .cmd59 arg crc stop
  | 60 => .cmd60 arg crc stop
  | 61 => .cmd61 arg crc stop
  | 62 => .cmd62 arg crc stop
  | _ => .cmd63 arg crc stop

/-- The row `ACMDn` for the index n, for n in `ACMD_SET` (R59 (b), R63); no row for the other indices (R60). -/
def appCommand (n : BitVec 6) (arg : BitVec 32) (crc : BitVec 7) (stop : BitVec 1) : Option Instr :=
  match n.toNat with
  | 6 => some (.acmd6 arg crc stop)
  | 13 => some (.acmd13 arg crc stop)
  | 17 => some (.acmd17 arg crc stop)
  | 18 => some (.acmd18 arg crc stop)
  | 19 => some (.acmd19 arg crc stop)
  | 20 => some (.acmd20 arg crc stop)
  | 21 => some (.acmd21 arg crc stop)
  | 22 => some (.acmd22 arg crc stop)
  | 23 => some (.acmd23 arg crc stop)
  | 24 => some (.acmd24 arg crc stop)
  | 25 => some (.acmd25 arg crc stop)
  | 38 => some (.acmd38 arg crc stop)
  | 39 => some (.acmd39 arg crc stop)
  | 40 => some (.acmd40 arg crc stop)
  | 41 => some (.acmd41 arg crc stop)
  | 42 => some (.acmd42 arg crc stop)
  | 43 => some (.acmd43 arg crc stop)
  | 44 => some (.acmd44 arg crc stop)
  | 45 => some (.acmd45 arg crc stop)
  | 46 => some (.acmd46 arg crc stop)
  | 47 => some (.acmd47 arg crc stop)
  | 48 => some (.acmd48 arg crc stop)
  | 49 => some (.acmd49 arg crc stop)
  | 51 => some (.acmd51 arg crc stop)
  | _ => none

/-! The fields of a 48-bit frame (R46, R47): `B[47]` start, `B[46]` direction, `B[45:40]` index, `B[39:8]` argument,
`B[7:1]` CRC7, `B[0]` stop; and of a 136-bit frame (R48). -/

def start48 (w : BitVec 48) : BitVec 1 := w.extractLsb' 47 1
def dir48 (w : BitVec 48) : BitVec 1 := w.extractLsb' 46 1
def index48 (w : BitVec 48) : BitVec 6 := w.extractLsb' 40 6
def arg48 (w : BitVec 48) : BitVec 32 := w.extractLsb' 8 32
def crc48 (w : BitVec 48) : BitVec 7 := w.extractLsb' 1 7
def stop48 (w : BitVec 48) : BitVec 1 := w.extractLsb' 0 1
def start136 (w : BitVec 136) : BitVec 1 := w.extractLsb' 135 1
def dir136 (w : BitVec 136) : BitVec 1 := w.extractLsb' 134 1
def index136 (w : BitVec 136) : BitVec 6 := w.extractLsb' 128 6
def argHigh136 (w : BitVec 136) : BitVec 64 := w.extractLsb' 64 64
def argLow136 (w : BitVec 136) : BitVec 63 := w.extractLsb' 1 63
def stop136 (w : BitVec 136) : BitVec 1 := w.extractLsb' 0 1

/-- The bus-frame decoder on 48 bits (R59 (b)): `ACMDn` takes precedence over `CMDn` after CMD55 (R63). -/
def decode48 (ctx : BusContext) (w : BitVec 48) : Except DecodeError Instr :=
  if start48 w = 1 then .error .notAFrame
  else if dir48 w = 1 then
    match (if ctx.appPrefix then appCommand (index48 w) (arg48 w) (crc48 w) (stop48 w) else none) with
    | some i => .ok i
    | none => .ok (hostCommand (index48 w) (arg48 w) (crc48 w) (stop48 w))
  else if ctx.longResponse then .error .responseIsLong
  else .ok (.rsp (index48 w) (arg48 w) (crc48 w) (stop48 w))

/-- The bus-frame decoder on 136 bits (R48, R59 (b)). -/
def decode136 (ctx : BusContext) (w : BitVec 136) : Except DecodeError Instr :=
  if start136 w = 1 then .error .notAFrame
  else if dir136 w = 1 then .error .frameIsNotLong
  else if ctx.longResponse then .ok (.rspLong (index136 w) (argHigh136 w) (argLow136 w) (stop136 w))
  else .error .frameIsNotLong

/-- The two decoders of R59 and the selection of the data format by `n_dat`. -/
def decode (ctx : BusContext) : BusUnit → Except DecodeError Instr
  | .control cw => decodeControl cw
  | .frame48 w => decode48 ctx w
  | .frame136 w => decode136 ctx w
  | .unit1 d => if ctx.nDat = 1 then .ok (.data1 d) else .error .formatNotSelected
  | .unit4 d => if ctx.nDat = 4 then .ok (.data4 d) else .error .formatNotSelected

/-! The encoder. -/

/-- A 48-bit bus frame from its fields (R46, R47). -/
def pack48 (dir : BitVec 1) (idx : BitVec 6) (arg : BitVec 32) (crc : BitVec 7) (stop : BitVec 1) : BitVec 48 :=
  0#1 ++ dir ++ idx ++ arg ++ crc ++ stop

/-- A 136-bit bus frame from its fields (R48). -/
def pack136 (idx : BitVec 6) (hi : BitVec 64) (lo : BitVec 63) (stop : BitVec 1) : BitVec 136 :=
  0#1 ++ 0#1 ++ idx ++ hi ++ lo ++ stop

/-- The CMD48 frame of a host command (R46). -/
def hostFrame (idx : BitVec 6) (arg : BitVec 32) (crc : BitVec 7) (stop : BitVec 1) : BitVec 48 :=
  pack48 1 idx arg crc stop

/-- The RSP48 frame of a response (R47). -/
def responseFrame (idx : BitVec 6) (arg : BitVec 32) (crc : BitVec 7) (stop : BitVec 1) : BitVec 48 :=
  pack48 0 idx arg crc stop

/-- The unit that an instruction is read from. -/
def encode : Instr → BusUnit
  | .locate sss => .control (0b000#3 ++ sss)
  | .arbitrate sss => .control (0b001#3 ++ sss)
  | .extractByte sss => .control (0b010#3 ++ sss)
  | .fsmStartBit => .control 0b011000
  | .fsmDirection => .control 0b011001
  | .fsmCommandField => .control 0b011010
  | .fsmArgumentField => .control 0b011011
  | .fsmCrc7 => .control 0b011100
  | .fsmStop => .control 0b011101
  | .halt sss => .control (0b100#3 ++ sss)
  | .acmd6 arg crc stop => .frame48 (hostFrame 6 arg crc stop)
  | .acmd13 arg crc stop => .frame48 (hostFrame 13 arg crc stop)
  | .acmd17 arg crc stop => .frame48 (hostFrame 17 arg crc stop)
  | .acmd18 arg crc stop => .frame48 (hostFrame 18 arg crc stop)
  | .acmd19 arg crc stop => .frame48 (hostFrame 19 arg crc stop)
  | .acmd20 arg crc stop => .frame48 (hostFrame 20 arg crc stop)
  | .acmd21 arg crc stop => .frame48 (hostFrame 21 arg crc stop)
  | .acmd22 arg crc stop => .frame48 (hostFrame 22 arg crc stop)
  | .acmd23 arg crc stop => .frame48 (hostFrame 23 arg crc stop)
  | .acmd24 arg crc stop => .frame48 (hostFrame 24 arg crc stop)
  | .acmd25 arg crc stop => .frame48 (hostFrame 25 arg crc stop)
  | .acmd38 arg crc stop => .frame48 (hostFrame 38 arg crc stop)
  | .acmd39 arg crc stop => .frame48 (hostFrame 39 arg crc stop)
  | .acmd40 arg crc stop => .frame48 (hostFrame 40 arg crc stop)
  | .acmd41 arg crc stop => .frame48 (hostFrame 41 arg crc stop)
  | .acmd42 arg crc stop => .frame48 (hostFrame 42 arg crc stop)
  | .acmd43 arg crc stop => .frame48 (hostFrame 43 arg crc stop)
  | .acmd44 arg crc stop => .frame48 (hostFrame 44 arg crc stop)
  | .acmd45 arg crc stop => .frame48 (hostFrame 45 arg crc stop)
  | .acmd46 arg crc stop => .frame48 (hostFrame 46 arg crc stop)
  | .acmd47 arg crc stop => .frame48 (hostFrame 47 arg crc stop)
  | .acmd48 arg crc stop => .frame48 (hostFrame 48 arg crc stop)
  | .acmd49 arg crc stop => .frame48 (hostFrame 49 arg crc stop)
  | .acmd51 arg crc stop => .frame48 (hostFrame 51 arg crc stop)
  | .cmd0 arg crc stop => .frame48 (hostFrame 0 arg crc stop)
  | .cmd1 arg crc stop => .frame48 (hostFrame 1 arg crc stop)
  | .cmd2 arg crc stop => .frame48 (hostFrame 2 arg crc stop)
  | .cmd3 arg crc stop => .frame48 (hostFrame 3 arg crc stop)
  | .cmd4 arg crc stop => .frame48 (hostFrame 4 arg crc stop)
  | .cmd5 arg crc stop => .frame48 (hostFrame 5 arg crc stop)
  | .cmd6 arg crc stop => .frame48 (hostFrame 6 arg crc stop)
  | .cmd7 arg crc stop => .frame48 (hostFrame 7 arg crc stop)
  | .cmd8 arg crc stop => .frame48 (hostFrame 8 arg crc stop)
  | .cmd9 arg crc stop => .frame48 (hostFrame 9 arg crc stop)
  | .cmd10 arg crc stop => .frame48 (hostFrame 10 arg crc stop)
  | .cmd11 arg crc stop => .frame48 (hostFrame 11 arg crc stop)
  | .cmd12 arg crc stop => .frame48 (hostFrame 12 arg crc stop)
  | .cmd13 arg crc stop => .frame48 (hostFrame 13 arg crc stop)
  | .cmd14 arg crc stop => .frame48 (hostFrame 14 arg crc stop)
  | .cmd15 arg crc stop => .frame48 (hostFrame 15 arg crc stop)
  | .cmd16 arg crc stop => .frame48 (hostFrame 16 arg crc stop)
  | .cmd17 arg crc stop => .frame48 (hostFrame 17 arg crc stop)
  | .cmd18 arg crc stop => .frame48 (hostFrame 18 arg crc stop)
  | .cmd19 arg crc stop => .frame48 (hostFrame 19 arg crc stop)
  | .cmd20 arg crc stop => .frame48 (hostFrame 20 arg crc stop)
  | .cmd21 arg crc stop => .frame48 (hostFrame 21 arg crc stop)
  | .cmd22 arg crc stop => .frame48 (hostFrame 22 arg crc stop)
  | .cmd23 arg crc stop => .frame48 (hostFrame 23 arg crc stop)
  | .cmd24 arg crc stop => .frame48 (hostFrame 24 arg crc stop)
  | .cmd25 arg crc stop => .frame48 (hostFrame 25 arg crc stop)
  | .cmd26 arg crc stop => .frame48 (hostFrame 26 arg crc stop)
  | .cmd27 arg crc stop => .frame48 (hostFrame 27 arg crc stop)
  | .cmd28 arg crc stop => .frame48 (hostFrame 28 arg crc stop)
  | .cmd29 arg crc stop => .frame48 (hostFrame 29 arg crc stop)
  | .cmd30 arg crc stop => .frame48 (hostFrame 30 arg crc stop)
  | .cmd31 arg crc stop => .frame48 (hostFrame 31 arg crc stop)
  | .cmd32 arg crc stop => .frame48 (hostFrame 32 arg crc stop)
  | .cmd33 arg crc stop => .frame48 (hostFrame 33 arg crc stop)
  | .cmd34 arg crc stop => .frame48 (hostFrame 34 arg crc stop)
  | .cmd35 arg crc stop => .frame48 (hostFrame 35 arg crc stop)
  | .cmd36 arg crc stop => .frame48 (hostFrame 36 arg crc stop)
  | .cmd37 arg crc stop => .frame48 (hostFrame 37 arg crc stop)
  | .cmd38 arg crc stop => .frame48 (hostFrame 38 arg crc stop)
  | .cmd39 arg crc stop => .frame48 (hostFrame 39 arg crc stop)
  | .cmd40 arg crc stop => .frame48 (hostFrame 40 arg crc stop)
  | .cmd41 arg crc stop => .frame48 (hostFrame 41 arg crc stop)
  | .cmd42 arg crc stop => .frame48 (hostFrame 42 arg crc stop)
  | .cmd43 arg crc stop => .frame48 (hostFrame 43 arg crc stop)
  | .cmd44 arg crc stop => .frame48 (hostFrame 44 arg crc stop)
  | .cmd45 arg crc stop => .frame48 (hostFrame 45 arg crc stop)
  | .cmd46 arg crc stop => .frame48 (hostFrame 46 arg crc stop)
  | .cmd47 arg crc stop => .frame48 (hostFrame 47 arg crc stop)
  | .cmd48 arg crc stop => .frame48 (hostFrame 48 arg crc stop)
  | .cmd49 arg crc stop => .frame48 (hostFrame 49 arg crc stop)
  | .cmd50 arg crc stop => .frame48 (hostFrame 50 arg crc stop)
  | .cmd51 arg crc stop => .frame48 (hostFrame 51 arg crc stop)
  | .cmd52 arg crc stop => .frame48 (hostFrame 52 arg crc stop)
  | .cmd53 arg crc stop => .frame48 (hostFrame 53 arg crc stop)
  | .cmd54 arg crc stop => .frame48 (hostFrame 54 arg crc stop)
  | .cmd55 arg crc stop => .frame48 (hostFrame 55 arg crc stop)
  | .cmd56 arg crc stop => .frame48 (hostFrame 56 arg crc stop)
  | .cmd57 arg crc stop => .frame48 (hostFrame 57 arg crc stop)
  | .cmd58 arg crc stop => .frame48 (hostFrame 58 arg crc stop)
  | .cmd59 arg crc stop => .frame48 (hostFrame 59 arg crc stop)
  | .cmd60 arg crc stop => .frame48 (hostFrame 60 arg crc stop)
  | .cmd61 arg crc stop => .frame48 (hostFrame 61 arg crc stop)
  | .cmd62 arg crc stop => .frame48 (hostFrame 62 arg crc stop)
  | .cmd63 arg crc stop => .frame48 (hostFrame 63 arg crc stop)
  | .rsp idx arg crc stop => .frame48 (responseFrame idx arg crc stop)
  | .rspLong idx hi lo stop => .frame136 (pack136 idx hi lo stop)
  | .data1 d => .unit1 d
  | .data4 d => .unit4 d

/-- The context a bus row names (R59, R63): `ACMDn` after CMD55; `CMDn` always, but `ACMDn` takes precedence where it
applies; `RSP` and `RSP_LONG` by the last host command; `DATA1` and `DATA4` by `n_dat`. -/
def Instr.contextHolds (ctx : BusContext) (i : Instr) : Bool :=
  match encode i with
  | .control _ => true
  | .frame48 w =>
    if dir48 w = 1 then
      match appCommand (index48 w) (arg48 w) (crc48 w) (stop48 w) with
      | some j => if i = j then ctx.appPrefix else !ctx.appPrefix
      | none => true
    else !ctx.longResponse
  | .frame136 _ => ctx.longResponse
  | .unit1 _ => ctx.nDat = 1
  | .unit4 _ => ctx.nDat = 4

/-! The host's view of the decoder (log 8): the table's rows are read with the context in which a row of that width
applies at reset (no host command seen, so `CMDn` and `RSP`), but for the 136-bit row, which applies after CMD2. -/

/-- The context of a table word of `nbits` bits. -/
def tableContext (nbits : Nat) : BusContext :=
  if nbits = 136 then { lastHostCmd := 2, lastHostCmdValid := true, nDat := 1 }
  else { lastHostCmd := 0, lastHostCmdValid := false, nDat := 1 }

/-- The unit a table word stands for: 6 bits (one byte) a control word; a byte above the control words a DATA1 unit;
48 and 136 bits a bus frame. -/
def tableUnit (nbits w : Nat) : Option BusUnit :=
  if nbits = 6 then some (.control (BitVec.ofNat 6 w))
  else if nbits = 8 then
    (if w < 64 then some (.control (BitVec.ofNat 6 w)) else some (.unit1 (BitVec.ofNat 8 w)))
  else if nbits = 48 then some (.frame48 (BitVec.ofNat 48 w))
  else if nbits = 136 then some (.frame136 (BitVec.ofNat 136 w))
  else none

/-- The instruction the decoder reads from a word numbered as spec/opcode_table.json numbers it. -/
def decodeTableWord (nbits w : Nat) : Option Instr :=
  match tableUnit nbits w with
  | none => none
  | some u =>
    match decode (tableContext nbits) u with
    | .ok i => some i
    | .error _ => none

end Sys2Proof
end

