-- ==== Sys2Proof/Machine/State.lean ====
section
/-! DEFINITION. The Decoder State of spec/10_state.md, the lines and cursors of spec/20_memory.md and
spec/40_edge_cursor.md, the output events of R39, the reasons a step can stop, and the state at the start of a run. -/

namespace Sys2Proof.Machine

open Sys2Proof

/-- The polarity of a clock edge; `rising` is encoded 1 and `falling` 0 (R24). -/
inductive Edge where
  | rising
  | falling
deriving DecidableEq, Repr

/-- A Bit line (R31): the level at sample 0 and the transition positions, in ascending order. -/
structure Line where
  init : Bool
  edges : List Nat
deriving DecidableEq, Repr

/-- An Edge Cursor (R23, R66): its line, its position, and the level of the line at that position. -/
structure Cursor where
  line : Line
  pos : Nat
  level : Bool
deriving DecidableEq, Repr

/-- One thing for each active data line (R23, R24): none, DAT0 only, or DAT0 to DAT3. What belongs to an inactive line
does not exist. -/
inductive DataSet (α : Type) where
  | absent
  | one (d0 : α)
  | four (d0 d1 d2 d3 : α)
deriving DecidableEq, Repr

/-- The configuration record (R24) but for the data-line set, which is the constructor of `State.dat` (log 16). DESIGN
CHOICE (log 26): a channel number is an unbounded natural number, its width being "not in source" (R24); the block only
ever compares channels, before the run (R45, R127). -/
structure Configuration where
  sampleEdge : Edge
  suppressDataFrames : Bool
  suppressStartStopFrames : Bool
  chanClk : Nat
  chanCmd : Nat
  chanDat : List Nat
deriving DecidableEq, Repr

/-- Decoded Frame kinds (R53). -/
inductive FrameKind where
  | start
  | direction
  | command
  | appCommand
  | response
  | argument
  | longArgument
  | crc7
  | stop
  | dataByte
deriving DecidableEq, Repr

/-- A Decoded Frame (R52); `first` and `last` are its start and end sample, both inclusive. -/
structure Frame where
  kind : FrameKind
  first : Nat
  last : Nat
  data1 : Word64
  data2 : Word64
  flags : Byte
deriving DecidableEq, Repr

/-- Marker kinds (R57). -/
inductive MarkerKind where
  | sampleEdge
  | startMark
  | stopMark
deriving DecidableEq, Repr

/-- The role of the line a marker is drawn on (R57). -/
inductive Channel where
  | clk
  | cmd
  | dat0
  | dat1
  | dat2
  | dat3
deriving DecidableEq, Repr

/-- Termination reasons (R58). -/
inductive Reason where
  | exhausted
  | endOfStream
  | cancelled
  | outOfOrderSeek
deriving DecidableEq, Repr

/-- Output events (R39). -/
inductive Event where
  | addFrame (f : Frame)
  | commitPacket
  | cancelPacket
  | marker (sample : Nat) (kind : MarkerKind) (channel : Channel)
  | progress (sample : Nat)
  | terminated (reason : Reason)
deriving DecidableEq, Repr

/-- What an operation can signal (R126, R131). -/
inductive Signal where
  | endOfStream
  | outOfOrderSeek
  | cancelled
deriving DecidableEq, Repr

/-- Configuration errors (R58, R127). -/
inductive ConfigError where
  | invalidDataLineCount
  | overlappingChannels
deriving DecidableEq, Repr

/-- Why the machine stops with a fault. -/
inductive Fault where
  /-- Raised by `configure`, never by a step: the host's configuration is rejected and no run begins (R127). Safe. -/
  | configError (code : ConfigError)
  /-- Raised by EXTRACT_BYTE with `n_dat = 0`: it would read the cursor of a data line that does not exist (R23, R85;
  log 11). Safe. -/
  | absentDataLine
  /-- Raised by DATA1 and DATA4, and by a step with such a unit presented, where `n_dat` does not select the format (R59;
  log 12). Safe. -/
  | dataFormatNotSelected
deriving DecidableEq, Repr

/-- Why a step has no meaning. -/
inductive Refusal where
  /-- Raised by an arm of `exec` whose instruction has no meaning yet; no arm is left, so no step is refused. Safe. -/
  | notModelled (mnemonic : String)
deriving DecidableEq, Repr

/-- The Decoder State (R5 to R23), the host's inputs (R24, R25, R30) and the output (R39). -/
structure State where
  /-- R6. -/
  phase : Phase
  /-- R7. -/
  frameState : FrameState
  /-- R8. -/
  acc : Word64
  /-- R9. -/
  hi : Word64
  /-- R10. -/
  countdown : BitVec 8
  /-- R11. -/
  nbits : BitVec 8
  /-- R12: 1 is host to slave. -/
  dir : Bool
  /-- R13. -/
  respLong : Bool
  /-- R14. -/
  lastHostCmd : BitVec 6
  /-- R14. -/
  lastHostCmdValid : Bool
  /-- R15. -/
  cmdStartSample : Nat
  /-- R15; 0 is data-only mode. -/
  cmdStartValid : Bool
  /-- R16. -/
  dataStartSample : Nat
  /-- R17. -/
  dataBlockStartSample : Nat
  /-- R18. -/
  fieldStart : Nat
  /-- R19. -/
  byteStart : Nat
  /-- R20. -/
  dacc : Byte
  /-- R20. -/
  dnb : BitVec 4
  /-- R21. -/
  unitCount : BitVec 10
  /-- R22. -/
  packetOpen : Bool
  /-- R23. -/
  clk : Cursor
  /-- R23. -/
  cmd : Cursor
  /-- R23; its constructor is the data-line set of R24. -/
  dat : DataSet Cursor
  /-- R24: read-only during decode. -/
  config : Configuration
  /-- R33: the capture's valid positions are 0 to `nSamples - 1`. -/
  nSamples : Nat
  /-- R25, R118: the values of `cancel_request` at the tops of the coming iterations, then 0 (log 2). -/
  cancelRequests : List Bool
  /-- R39: the output event stream, oldest first. -/
  out : List Event
  /-- The model's own: a bus unit given whole to the bus-frame decoder of R59 (b) (log 5). -/
  presented : Option BusUnit
deriving DecidableEq, Repr

/-- A cursor at the start of the capture (R29, D4). -/
def Cursor.atStart (l : Line) : Cursor := { line := l, pos := 0, level := l.init }

/-- The same for every active data line. -/
def DataSet.map {α β : Type} (f : α → β) : DataSet α → DataSet β
  | .absent => .absent
  | .one d0 => .one (f d0)
  | .four d0 d1 d2 d3 => .four (f d0) (f d1) (f d2) (f d3)

/-- The start of a run (R29, R146) on any accepted configuration and any capture. -/
def State.initial (config : Configuration) (nSamples : Nat) (clk cmd : Line) (dat : DataSet Line)
    (cancelRequests : List Bool) : State where
  phase := .findCmdStart
  frameState := .startBit
  acc := 0
  hi := 0
  countdown := 0
  nbits := 0
  dir := false
  respLong := false
  lastHostCmd := 0
  lastHostCmdValid := false
  cmdStartSample := 0
  cmdStartValid := false
  dataStartSample := 0
  dataBlockStartSample := 0
  fieldStart := 0
  byteStart := 0
  dacc := 0
  dnb := 0
  unitCount := 0
  packetOpen := false
  clk := .atStart clk
  cmd := .atStart cmd
  dat := dat.map .atStart
  config := config
  nSamples := nSamples
  cancelRequests := cancelRequests
  out := []
  presented := none

/-- DESIGN CHOICE (log 3): the host's inputs in `State.reset`, for which the spec gives no default. -/
def Configuration.reset : Configuration where
  sampleEdge := .rising
  suppressDataFrames := false
  suppressStartStopFrames := false
  chanClk := 0
  chanCmd := 1
  chanDat := []

/-- DESIGN CHOICE (log 3): a line that stays high. -/
def Line.idle : Line := { init := true, edges := [] }

/-- The machine right after reset: R29 for every register, and for the host's inputs the values of log 3: one sample,
idle lines, no data line. -/
def State.reset : State := State.initial .reset 1 .idle .idle .absent []

end Sys2Proof.Machine
end

