-- ==== Sys2Proof/Machine/Ops.lean ====
section
/-! DEFINITION. The shared operations: the level of a line (R31), the Edge Cursor operations (R66 to R73), the output
operations (R111 to R115), and ending a run (R121, R131), which is how every signal is taken. -/

namespace Sys2Proof.Machine

open Sys2Proof

/-! Lines and cursors. -/

/-- `b` toggled `n` times. -/
def toggled (b : Bool) (n : Nat) : Bool := xor b (n % 2 == 1)

/-- `Line_L(p)`: the level at sample `p` (R31). -/
def Line.levelAt (l : Line) (p : Nat) : Bool :=
  toggled l.init (l.edges.filter (· ≤ p)).length

/-- The canonical form of a line of a capture of `n` samples (R31): transitions strictly ascending, at least 1, below `n`. -/
def Line.wf (n : Nat) (l : Line) : Bool :=
  decide (l.edges.Pairwise (· < ·)) && l.edges.all (fun p => decide (1 ≤ p) && decide (p < n))

/-- The transitions ahead of the cursor, `p_(idx+1), ..., p_k` (R66; `idx` is not stored). -/
def Cursor.ahead (c : Cursor) : List Nat := c.line.edges.filter (c.pos < ·)

/-- `has_more_transitions` (R72). -/
def Cursor.hasMore (c : Cursor) : Bool := !c.ahead.isEmpty

/-- `would_cross_edge_by` (R71). -/
def Cursor.wouldCross (c : Cursor) (p : Nat) : Bool :=
  match c.ahead with
  | [] => false
  | q :: _ => q ≤ p

/-- `peek_next_edge_sample` (R70). -/
def Cursor.peek (c : Cursor) : Except Signal Nat :=
  match c.ahead with
  | [] => .error .endOfStream
  | q :: _ => .ok q

/-- `advance_to_next_edge` (R68). -/
def Cursor.nextEdge (c : Cursor) : Except Signal Cursor :=
  match c.ahead with
  | [] => .error .endOfStream
  | q :: _ => .ok { c with pos := q, level := !c.level }

/-- `advance_to_absolute` in a capture of `n` samples (R69): the level is toggled once for every transition passed. -/
def Cursor.toAbs (n : Nat) (p : Nat) (c : Cursor) : Except Signal Cursor :=
  if p < c.pos then .error .outOfOrderSeek
  else if n ≤ p then .error .endOfStream
  else .ok { c with pos := p, level := toggled c.level (c.ahead.filter (· ≤ p)).length }

/-- The active lines in order DAT0 to DAT3. -/
def DataSet.toList {α : Type} : DataSet α → List α
  | .absent => []
  | .one d0 => [d0]
  | .four d0 d1 d2 d3 => [d0, d1, d2, d3]

/-- `n_dat` (R24). -/
def DataSet.count {α : Type} : DataSet α → Nat
  | .absent => 0
  | .one _ => 1
  | .four _ _ _ _ => 4

/-- "For each active data line d": in order, up to the first that signals; the lines before it keep what was done
(R41 (a), R141; log 25). -/
def DataSet.each (f : Cursor → Except Signal Cursor) : DataSet Cursor → DataSet Cursor × Option Signal
  | .absent => (.absent, none)
  | .one d0 =>
    match f d0 with
    | .error x => (.one d0, some x)
    | .ok e0 => (.one e0, none)
  | .four d0 d1 d2 d3 =>
    match f d0 with
    | .error x => (.four d0 d1 d2 d3, some x)
    | .ok e0 =>
      match f d1 with
      | .error x => (.four e0 d1 d2 d3, some x)
      | .ok e1 =>
        match f d2 with
        | .error x => (.four e0 e1 d2 d3, some x)
        | .ok e2 =>
          match f d3 with
          | .error x => (.four e0 e1 e2 d3, some x)
          | .ok e3 => (.four e0 e1 e2 e3, none)

/-! The result of an operation: a value, or a signal; with the state as it stands, since nothing is rolled back (R141). -/

/-- An operation's result. -/
inductive Res (α : Type) where
  | ok (a : α) (s : State)
  | signal (x : Signal) (s : State)
deriving DecidableEq, Repr

/-- The next operation is performed only if this one did not signal (R138 (3)). -/
def Res.andThen {α β : Type} (r : Res α) (f : α → State → Res β) : Res β :=
  match r with
  | .ok a s => f a s
  | .signal x s => .signal x s

/-- The state an operation leaves, normally or by a signal. -/
def Res.state {α : Type} : Res α → State
  | .ok _ s => s
  | .signal _ s => s

/-! The cursor operations on the machine's cursors. -/

/-- `clk.advance_to_next_edge()`. -/
def State.clkNextEdge (s : State) : Res Unit :=
  match s.clk.nextEdge with
  | .ok c => .ok () { s with clk := c }
  | .error x => .signal x s

/-- `clk.advance_to_absolute(p)`. -/
def State.clkTo (p : Nat) (s : State) : Res Unit :=
  match s.clk.toAbs s.nSamples p with
  | .ok c => .ok () { s with clk := c }
  | .error x => .signal x s

/-- `clk.peek_next_edge_sample()`. -/
def State.clkPeek (s : State) : Res Nat :=
  match s.clk.peek with
  | .ok p => .ok p s
  | .error x => .signal x s

/-- `cmd.advance_to_next_edge()`. -/
def State.cmdNextEdge (s : State) : Res Unit :=
  match s.cmd.nextEdge with
  | .ok c => .ok () { s with cmd := c }
  | .error x => .signal x s

/-- `cmd.advance_to_absolute(p)`. -/
def State.cmdTo (p : Nat) (s : State) : Res Unit :=
  match s.cmd.toAbs s.nSamples p with
  | .ok c => .ok () { s with cmd := c }
  | .error x => .signal x s

/-- `cmd.peek_next_edge_sample()`. -/
def State.cmdPeek (s : State) : Res Nat :=
  match s.cmd.peek with
  | .ok p => .ok p s
  | .error x => .signal x s

/-- For each active data line d: `d.advance_to_absolute(p)`. -/
def State.datTo (p : Nat) (s : State) : Res Unit :=
  match s.dat.each (Cursor.toAbs s.nSamples p) with
  | (d, none) => .ok () { s with dat := d }
  | (d, some x) => .signal x { s with dat := d }

/-- `n_dat` (R24). -/
def State.nDat (s : State) : Nat := s.dat.count

/-- The six lines (those that exist): the block's read-only address spaces (R34). -/
def State.lines (s : State) : Line × Line × DataSet Line := (s.clk.line, s.cmd.line, s.dat.map (·.line))

/-- Every line is in canonical form (R31) and the capture has a legal length (R4, R33). -/
def State.linesWf (s : State) : Bool :=
  decide (1 ≤ s.nSamples) && decide (s.nSamples < 2 ^ Config.POS_BITS) && s.clk.line.wf s.nSamples
    && s.cmd.line.wf s.nSamples && s.dat.toList.all (fun d => d.line.wf s.nSamples)

/-! The output operations. -/

/-- One event is appended to `out` (R38, R39). -/
def State.emit (e : Event) (s : State) : State := { s with out := s.out ++ [e] }

/-- `AddFrame` (R111). -/
def State.addFrame (f : Frame) (s : State) : State := { s.emit (.addFrame f) with packetOpen := true }

/-- `CommitPacket` (R112). -/
def State.commitPacket (s : State) : State := { s.emit .commitPacket with packetOpen := false }

/-- `CancelPacket` (R113). -/
def State.cancelPacket (s : State) : State := { s.emit .cancelPacket with packetOpen := false }

/-- `ClosePacket` (R113): a packet with no frame in it is never committed. -/
def State.closePacket (s : State) : State := if s.packetOpen then s.commitPacket else s

/-- `Marker` (R114). -/
def State.marker (sample : Nat) (kind : MarkerKind) (channel : Channel) (s : State) : State :=
  s.emit (.marker sample kind channel)

/-- `Progress(clk.pos)` (R115, D25). -/
def State.progress (s : State) : State := s.emit (.progress s.clk.pos)

/-! Ending a run. -/

/-- The termination reason of a signal (R131). -/
def Signal.reason : Signal → Reason
  | .endOfStream => .endOfStream
  | .outOfOrderSeek => .outOfOrderSeek
  | .cancelled => .cancelled

/-- The open packet, if there is one, is cancelled (R121). -/
def State.cancelOpenPacket (s : State) : State := if s.packetOpen then s.cancelPacket else s

/-- `TERMINATE(reason)` (R121): how every exception of the block is taken (R131, R139). It keeps `frame_state` (R7, R109,
R131), so that a run that ends inside an exchange leaves another one than StartBit, against what R59 derives (DEDUCED,
log 28). -/
def State.terminate (reason : Reason) (s : State) : State :=
  ({ s.cancelOpenPacket with phase := .terminated }).emit (.terminated reason)

/-- The termination rule (R131): a signal abandons the operation and ends the run; otherwise the driver goes on. -/
def Res.orTerminate {α : Type} (r : Res α) (f : α → State → State) : State :=
  match r with
  | .ok a s => f a s
  | .signal x s => s.terminate x.reason

/-- `post(E)`: the level of the clock immediately after an edge of polarity E (spec/00_scope.md section 5.2). -/
def Edge.post : Edge → Bool
  | .rising => true
  | .falling => false

/-- The other polarity. -/
def Edge.flip : Edge → Edge
  | .rising => .falling
  | .falling => .rising

/-- `post(sample_edge)`. -/
def State.sampleLevel (s : State) : Bool := s.config.sampleEdge.post

end Sys2Proof.Machine
end

