-- ==== Sys2Proof/Machine/Operands.lean ====
section
/-! DEFINITION. Field assembly (R51), payload words and the Decoded Frame of each kind (R52 to R54), the packing of data
lines into a byte (R35, R86, R87), the bits of a presented unit, and the codes of the enumerations (R53, R57, R58). -/

namespace Sys2Proof.Machine

open Sys2Proof

/-- `shl1_N(v, b)`: shift left by one within N bits, `b` entering at bit 0 (R51, R149 (a)). -/
def shl1 {n : Nat} (v : BitVec n) (b : Bool) : BitVec n := (v <<< 1) ||| (BitVec.ofBool b).setWidth n

/-- `trunc_8((v << 4) | g)` (R51, R87). -/
def shl4 (v : Byte) (g : BitVec 4) : Byte := (v <<< 4) ||| g.setWidth 8

/-- The four levels of one cycle as a group, most significant line first (R35, R87, D9). -/
def nibbleOf (d0 d1 d2 d3 : Bool) : BitVec 4 :=
  match Config.MSB_LINE with
  | .dat3 => BitVec.ofBool d3 ++ BitVec.ofBool d2 ++ BitVec.ofBool d1 ++ BitVec.ofBool d0
  | .dat0 => BitVec.ofBool d0 ++ BitVec.ofBool d1 ++ BitVec.ofBool d2 ++ BitVec.ofBool d3

/-- The bits of a frame in the order of transmission: `B[N-1]` first (R46, R51). -/
def bitsOf {n : Nat} (w : BitVec n) : List Bool := (List.range n).map (fun k => w.getMsbD k)

/-- The bit of a presented unit that follows the `k` bits already taken: most significant first (R86). -/
def unitBit (u : Byte) (k : BitVec 4) : Bool := u.getMsbD k.toNat

/-- The group of a presented unit that follows the `k` bits already taken: high four bits first (R87). -/
def unitNibble (u : Byte) (k : BitVec 4) : BitVec 4 := if k = 0 then u.extractLsb' 4 4 else u.extractLsb' 0 4

/-- A frame whose range ends one sample before `cycleEnd` (R105). -/
def Frame.ending (kind : FrameKind) (first cycleEnd : Nat) (data1 data2 : Word64) (flags : Byte) : Frame :=
  { kind := kind, first := first, last := cycleEnd - 1, data1 := data1, data2 := data2, flags := flags }

/-- Frame kind codes (R53, D22). -/
def FrameKind.code : FrameKind → BitVec 4
  | .start => 0
  | .direction => 1
  | .command => 2
  | .appCommand => 3
  | .response => 4
  | .argument => 5
  | .longArgument => 6
  | .crc7 => 7
  | .stop => 8
  | .dataByte => 9

/-- Marker kind codes (R57). -/
def MarkerKind.code : MarkerKind → Nat
  | .sampleEdge => 0
  | .startMark => 1
  | .stopMark => 2

/-- Channel codes (R57). -/
def Channel.code : Channel → Nat
  | .clk => 0
  | .cmd => 1
  | .dat0 => 2
  | .dat1 => 3
  | .dat2 => 4
  | .dat3 => 5

/-- Termination reason codes (R58, R134). -/
def Reason.code : Reason → Nat
  | .exhausted => 0
  | .endOfStream => 1
  | .cancelled => 2
  | .outOfOrderSeek => 3

/-- Configuration error codes (R58, R134). -/
def ConfigError.code : ConfigError → Nat
  | .invalidDataLineCount => 1
  | .overlappingChannels => 2

end Sys2Proof.Machine
end

