-- ==== Sys2Proof/Machine/Flags.lean ====
section
/-! DEFINITION. The block has no condition codes (R26). What takes their place is the classification of a bus frame from
the one-bit state that steers it (R100) and the flag/context byte of a Response frame (R55). -/

namespace Sys2Proof.Machine

open Sys2Proof

/-- How a CommandField is classified (R59 (b), R100). -/
inductive FrameClass where
  | command
  | appCommand
  | response
  | longResponse
deriving DecidableEq, Repr

/-- The context of the bus-frame decoder (R59 (b)). -/
def State.context (s : State) : BusContext :=
  { lastHostCmd := s.lastHostCmd, lastHostCmdValid := s.lastHostCmdValid, nDat := s.nDat }

/-- R100: the preceding host command was CMD55 and the index is in `ACMD_SET`. -/
def State.isAppCommand (s : State) (v : BitVec 6) : Bool :=
  s.context.appPrefix && Config.ACMD_SET.contains v

/-- R100: the classification of a CommandField of value `v` in the direction `dir`. -/
def State.classify (s : State) (v : BitVec 6) : FrameClass :=
  if s.dir then (if s.isAppCommand v then .appCommand else .command)
  else if s.context.longResponse then .longResponse
  else .response

/-- The frame kind of a classification (R53). -/
def FrameClass.kind : FrameClass → FrameKind
  | .command => .command
  | .appCommand => .appCommand
  | .response => .response
  | .longResponse => .response

/-- R55: which host command a response belongs to, `0xFF` if none has been seen; 0 on every other kind. -/
def State.contextByte (s : State) : FrameClass → Byte
  | .command => 0
  | .appCommand => 0
  | .response => if s.lastHostCmdValid then s.lastHostCmd.setWidth 8 else 0xFF
  | .longResponse => if s.lastHostCmdValid then s.lastHostCmd.setWidth 8 else 0xFF

end Sys2Proof.Machine
end

