-- ==== Sys2Proof/Machine/Arbiter.lean ====
section
/-! DEFINITION. The Data-Presence Arbiter and the alignment after a positive decision
(spec/42_data_presence_arbiter.md). -/

namespace Sys2Proof.Machine

open Sys2Proof

/-- The results of ARBITRATE (R80, R84). -/
inductive Arbitration where
  | dataPresent
  | noData
deriving DecidableEq, Repr

/-- `contributes(d)` (R79, R80, R83). -/
def State.contributes (s : State) (d : Cursor) : Bool :=
  if s.cmdStartValid then d.wouldCross s.cmdStartSample else d.hasMore

/-- The candidate of a data line (R79): its next transition and the level it has now. -/
def State.candidate (s : State) (d : Cursor) : Option (Nat × Bool) :=
  if s.contributes d then d.ahead.head?.map (fun p => (p, d.level)) else none

/-- The candidates of the contributing lines, in order DAT0 to DAT3 (R80). -/
def State.candidates (s : State) : List (Nat × Bool) := s.dat.toList.filterMap s.candidate

/-- The minimum position over a non-empty list of candidates (R80). -/
def earliest (c : Nat × Bool) (cs : List (Nat × Bool)) : Nat :=
  cs.foldl (fun m x => min m x.1) c.1

/-- The tie-break (R81): among the lines at the minimum, one at level 1 suffices. -/
def declaresStart (mn : Nat) (cands : List (Nat × Bool)) : Bool :=
  cands.any (fun x => x.1 == mn && x.2)

/-- The passes of R80, at most `fuel` of them. A pass that does not return moves a contributing line over its
transition, so `State.arbitrate` never runs out of passes (log 14). -/
def State.arbitratePasses : Nat → State → Res Arbitration
  | 0, s => .ok .noData s
  | fuel + 1, s =>
    match s.candidates with
    | [] => .ok .noData s
    | c :: cs =>
      let mn := earliest c cs
      if declaresStart mn (c :: cs) then .ok .dataPresent { s with dataStartSample := mn }
      else if s.cmdStartValid && mn == s.cmdStartSample then .ok .noData s
      else
        (s.clkTo mn).andThen fun _ s =>
        (s.datTo mn).andThen fun _ s =>
        State.arbitratePasses fuel s

/-- `ARBITRATE()` (R80). With `n_dat = 0` no line contributes and the result is `NoData` at once (R83 (c)). -/
def State.arbitrate (s : State) : Res Arbitration :=
  State.arbitratePasses ((s.dat.toList.map (·.ahead.length)).sum + 1) s

/-- The clock standing just after an edge of polarity `sample_edge`, taking one more edge if it is not (R82). -/
def State.fixSamplingEdge (s : State) : Res Unit :=
  if s.clk.level = s.sampleLevel then .ok () s else s.clkNextEdge

/-- The clock moved from the data start to the sampling edge of the first data bit (R82, D8). -/
def State.alignClock (s : State) : Res Unit :=
  match Config.DATA_ALIGN_MODE with
  | .twoEdgesThenFix =>
    s.clkNextEdge.andThen fun _ s =>
    s.clkNextEdge.andThen fun _ s =>
    s.fixSamplingEdge
  | .sampleEdgeThenTwo =>
    (if s.clk.line.edges.contains s.clk.pos && s.clk.level == s.sampleLevel then .ok () s
     else s.clkNextEdge.andThen fun _ s => s.fixSamplingEdge).andThen fun _ s =>
    s.clkNextEdge.andThen fun _ s =>
    s.clkNextEdge

/-- `ALIGN_DATA()` (R82). -/
def State.alignData (s : State) : Res Unit :=
  (s.clkTo s.dataStartSample).andThen fun _ s =>
  (s.datTo s.dataStartSample).andThen fun _ s =>
  s.alignClock.andThen fun _ s =>
  (s.datTo s.clk.pos).andThen fun _ s =>
  .ok () { s with dataBlockStartSample := s.clk.pos, byteStart := s.clk.pos, unitCount := 0 }

end Sys2Proof.Machine
end

