-- ==== Sys2Proof/Machine/Locator.lean ====
section
/-! DEFINITION. The Start-Bit Locator (spec/41_start_bit_locator.md). -/

namespace Sys2Proof.Machine

open Sys2Proof

/-- The results of LOCATE (R74, R76). -/
inductive Located where
  | start
  | noCommandActivity
deriving DecidableEq, Repr

/-- The passes of R74, at most `fuel` of them. A pass that does not return moves `cmd` over a transition, so
`State.locate` never runs out of passes (log 14). -/
def State.locatePasses : Nat → State → Res Located
  | 0, s => .ok .noCommandActivity { s with cmdStartValid := false }
  | fuel + 1, s =>
    if s.cmd.hasMore then
      if s.cmd.level then
        s.cmdNextEdge.andThen fun _ s =>
        s.cmdPeek.andThen fun next s =>
        if next - s.cmd.pos ≤ Config.MIN_PULSE then State.locatePasses fuel s
        else .ok .start { s with cmdStartSample := s.cmd.pos, cmdStartValid := true }
      else
        s.cmdNextEdge.andThen fun _ s => State.locatePasses fuel s
    else .ok .noCommandActivity { s with cmdStartValid := false }

/-- `LOCATE()` (R74): at most k + 1 passes on a line with k transitions ahead. -/
def State.locate (s : State) : Res Located := State.locatePasses (s.cmd.ahead.length + 1) s

end Sys2Proof.Machine
end

