-- ==== Sys2Proof/Machine/Extractor.lean ====
section
/-! DEFINITION. The Data Extractor (spec/43_data_extractor.md). Where an argument `src` is a byte-unit, its bits stand in
place of the sampled levels (the rows DATA1 and DATA4; log 24); where it is `none`, the lines are sampled. -/

namespace Sys2Proof.Machine

open Sys2Proof

/-- The results of EXTRACT_BYTE (R93). -/
inductive Extracted where
  | byteDone
  | blockDoneMore
  | blockDoneNoMore
  | interrupted
deriving DecidableEq, Repr

/-- The packing of one cycle (R86, R87). No line, no packing: EXTRACT_BYTE is never invoked then (R85; log 11). -/
def State.packGroup (src : Option Byte) (s : State) : State :=
  match s.dat with
  | .absent => s
  | .one d0 =>
    { s with dacc := shl1 s.dacc ((src.map (unitBit · s.dnb)).getD d0.level), dnb := s.dnb + 1 }
  | .four d0 d1 d2 d3 =>
    { s with
      dacc := shl4 s.dacc ((src.map (unitNibble · s.dnb)).getD (nibbleOf d0.level d1.level d2.level d3.level))
      dnb := s.dnb + 4 }

/-- The per-bit step (R88); the result is the boundary edge. -/
def State.bitStep (src : Option Byte) (s : State) : Res Nat :=
  ((s.marker s.clk.pos .sampleEdge .clk).packGroup src).clkNextEdge.andThen fun _ s =>
  let boundary := s.clk.pos
  s.clkNextEdge.andThen fun _ s =>
  (s.datTo s.clk.pos).andThen fun _ s =>
  .ok boundary s

/-- The interruption test (R89): true if the command line is starting a frame. -/
def State.interruptionTest (s : State) : Res Bool :=
  if s.cmdStartValid then
    s.clkPeek.andThen fun next s =>
    if s.cmdStartSample ≤ next then
      if s.cmd.level then s.locate.andThen fun _ s => .ok false s
      else .ok true s
    else .ok false s
  else .ok false s

/-- A completed byte (R90), its frame left out under `suppress_data_frames` (R92). -/
def State.completeByte (boundary : Nat) (s : State) : State :=
  let s :=
    if s.config.suppressDataFrames then s
    else s.addFrame (.ending .dataByte s.byteStart boundary (s.dacc.setWidth 64) 0 0)
  ({ s with byteStart := boundary, unitCount := s.unitCount + 1 }).progress

/-- The block boundary (R91). -/
def State.endBlock (s : State) : Res Extracted :=
  s.closePacket.progress.arbitrate.andThen fun a s =>
  match a with
  | .dataPresent => s.alignData.andThen fun _ s => .ok .blockDoneMore s
  | .noData => .ok .blockDoneNoMore s

/-- The loop of R94, at most `fuel` passes; eight are enough, since each adds one or four bits (log 14). -/
def State.extractPasses (src : Option Byte) : Nat → State → Res Extracted
  | 0, s => .ok .byteDone s
  | fuel + 1, s =>
    (s.bitStep src).andThen fun boundary s =>
    s.interruptionTest.andThen fun interrupted s =>
    let s := if s.dnb = 8 then s.completeByte boundary else s
    if interrupted then .ok .interrupted s.closePacket
    else if s.dnb = 8 then
      if s.unitCount.toNat = Config.BLOCK_UNITS then s.endBlock else .ok .byteDone s
    else State.extractPasses src fuel s

/-- `EXTRACT_BYTE()` (R94). -/
def State.extractByte (src : Option Byte) (s : State) : Res Extracted :=
  State.extractPasses src 8 { s with dacc := 0, dnb := 0 }

end Sys2Proof.Machine
end

