-- ==== Sys2Proof/Machine/Fsm.lean ====
section
/-! DEFINITION. The Frame State Machine (spec/44_frame_state_machine.md). -/

namespace Sys2Proof.Machine

open Sys2Proof

/-- The result of a bus cycle (R95): the midpoint, the cycle end, and the bit sampled at the midpoint. -/
structure Cycle where
  mid : Nat
  cycleEnd : Nat
  bit : Bool
deriving DecidableEq, Repr

/-- The results of FSM_STEP (R107). -/
inductive FsmResult where
  | goOn
  | complete
  | abort
deriving DecidableEq, Repr

/-- The level of the clock just after a cycle midpoint (R95, D15). -/
def State.midLevel (s : State) : Bool :=
  match Config.FSM_MIDPOINT with
  | .sampleEdge => s.sampleLevel
  | .opposite => s.config.sampleEdge.flip.post

/-- The clock stands on the midpoint: the lines are aligned to it, the cycle end is looked up, the marker placed and the
command line read (the part CYCLE and the in-place case of START_CYCLE share; R95, R96). -/
def State.sampleHere (s : State) : Res Cycle :=
  let mid := s.clk.pos
  (s.cmdTo mid).andThen fun _ s =>
  (s.datTo mid).andThen fun _ s =>
  s.clkPeek.andThen fun cycleEnd s =>
  .ok { mid := mid, cycleEnd := cycleEnd, bit := s.cmd.level } (s.marker mid .sampleEdge .clk)

/-- The clock moved out of the half-period that follows a sampling edge (R95). -/
def State.toBoundary (s : State) : Res Unit :=
  if s.clk.level = s.midLevel then s.clkNextEdge else .ok () s

/-- `CYCLE()` (R95). -/
def State.cycle (s : State) : Res Cycle :=
  s.toBoundary.andThen fun _ s =>
  s.clkNextEdge.andThen fun _ s =>
  s.sampleHere

/-- `START_CYCLE()` (R96): (1) the clock is behind the command start; (2) in place; (3) on a boundary edge. -/
def State.startCycle (s : State) : Res Cycle :=
  if s.clk.pos < s.cmdStartSample then (s.clkTo s.cmdStartSample).andThen fun _ s => s.cycle
  else if s.clk.level = s.midLevel then s.sampleHere
  else s.cycle

/-- `StartBit` (R97). -/
def State.startBitAction (c : Cycle) (s : State) : FsmResult × State :=
  if c.bit then (.abort, s)
  else
    let s := s.marker s.cmdStartSample .startMark .cmd
    let s :=
      if s.config.suppressStartStopFrames then s
      else s.addFrame (.ending .start s.cmdStartSample c.cycleEnd 0 0 0)
    (.goOn, { s with fieldStart := c.cycleEnd, frameState := .direction })

/-- `Direction` (R98). -/
def State.directionAction (c : Cycle) (s : State) : FsmResult × State :=
  let s := { s with dir := c.bit }
  let s := s.addFrame (.ending .direction s.fieldStart c.cycleEnd ((BitVec.ofBool c.bit).setWidth 64) 0 0)
  (.goOn,
    { s with
      fieldStart := c.cycleEnd, countdown := BitVec.ofNat 8 Config.CMD_FIELD_BITS, acc := 0,
      frameState := .commandField })

/-- What a classified CommandField writes besides its frame (R14, R100). -/
def State.remember (cls : FrameClass) (v : BitVec 6) (s : State) : State :=
  match cls with
  | .command => { s with lastHostCmd := v, lastHostCmdValid := true, respLong := false }
  | .appCommand => { s with lastHostCmd := v, lastHostCmdValid := true, respLong := false }
  | .response => { s with respLong := false }
  | .longResponse => { s with respLong := true }

/-- The completion of CommandField with a given classification (R100). -/
def State.completeCommand (cls : FrameClass) (c : Cycle) (s : State) : State :=
  let v := s.acc.setWidth 6
  let f := Frame.ending cls.kind s.fieldStart c.cycleEnd (v.setWidth 64) 0 (s.contextByte cls)
  let s := (s.remember cls v).addFrame f
  { s with
    fieldStart := c.cycleEnd
    countdown := if s.respLong then BitVec.ofNat 8 Config.LONG_ARG_CYCLES else BitVec.ofNat 8 Config.ARG_BITS
    acc := 0, hi := 0, nbits := 0, frameState := .argumentField }

/-- `CommandField` (R99, R100). The classification is the one of R100, or the one a presented frame was decoded with
(log 19). -/
def State.commandFieldAction (cls : Option FrameClass) (c : Cycle) (s : State) : FsmResult × State :=
  let s := { s with acc := shl1 s.acc c.bit, countdown := s.countdown - 1 }
  if s.countdown = 0 then
    (.goOn, s.completeCommand (cls.getD (s.classify (s.acc.setWidth 6))) c)
  else (.goOn, s)

/-- `ArgumentField`, normal case (R101). -/
def State.argumentAction (c : Cycle) (s : State) : FsmResult × State :=
  let s := { s with acc := shl1 s.acc c.bit, nbits := s.nbits + 1, countdown := s.countdown - 1 }
  if s.countdown = 0 then
    let s := s.addFrame (.ending .argument s.fieldStart c.cycleEnd ((s.acc.setWidth 32).setWidth 64) 0 0)
    (.goOn,
      { s with
        fieldStart := c.cycleEnd, countdown := BitVec.ofNat 8 Config.CRC7_BITS, acc := 0, frameState := .crc7 })
  else (.goOn, s)

/-- `ArgumentField`, long case (R102). -/
def State.longArgumentAction (c : Cycle) (s : State) : FsmResult × State :=
  let s := { s with acc := shl1 s.acc c.bit, nbits := s.nbits + 1, countdown := s.countdown - 1 }
  let s := if s.nbits = 64 then { s with hi := s.acc, acc := 0 } else s
  if s.countdown = 0 then
    let s := { s with acc := shl1 s.acc false }
    let s := s.addFrame (.ending .longArgument s.fieldStart c.cycleEnd s.hi s.acc 0)
    (.goOn, { s with fieldStart := c.cycleEnd, frameState := .stop })
  else (.goOn, s)

/-- `CRC7` (R103): framed, not validated (R106). -/
def State.crc7Action (c : Cycle) (s : State) : FsmResult × State :=
  let s := { s with acc := shl1 s.acc c.bit, countdown := s.countdown - 1 }
  if s.countdown = 0 then
    let s := s.addFrame (.ending .crc7 s.fieldStart c.cycleEnd ((s.acc.setWidth 7).setWidth 64) 0 0)
    (.goOn, { s with fieldStart := c.cycleEnd, frameState := .stop })
  else (.goOn, s)

/-- `Stop` (R104): the level of the stop bit is not examined. -/
def State.stopAction (c : Cycle) (s : State) : FsmResult × State :=
  let s := s.marker c.mid .stopMark .cmd
  let s :=
    if s.config.suppressStartStopFrames then s
    else s.addFrame (.ending .stop s.fieldStart c.cycleEnd 0 0 0)
  let s := ({ s with fieldStart := c.cycleEnd }).closePacket
  (.complete, { s with frameState := .startBit })

/-- The action of a sub-state on a bus cycle (R108). -/
def State.fsmAction (f : FrameState) (cls : Option FrameClass) (c : Cycle) (s : State) : FsmResult × State :=
  match f with
  | .startBit => s.startBitAction c
  | .direction => s.directionAction c
  | .commandField => s.commandFieldAction cls c
  | .argumentField => if s.respLong then s.longArgumentAction c else s.argumentAction c
  | .crc7 => s.crc7Action c
  | .stop => s.stopAction c

/-- The bus cycle of a sub-state (R95, R96). -/
def State.fsmCycle (f : FrameState) (s : State) : Res Cycle :=
  match f with
  | .startBit => s.startCycle
  | _ => s.cycle

/-- One bit of a presented frame, with the classification the frame was decoded with (log 19), if it was decoded. -/
structure SuppliedBit where
  bit : Bool
  cls : Option FrameClass
deriving DecidableEq, Repr

/-- `FSM_STEP()` (R108): one bus cycle, then the action of the sub-state. A supplied bit stands in place of the sampled
one. -/
def State.fsmStep (f : FrameState) (sup : Option SuppliedBit) (s : State) : Res FsmResult :=
  (s.fsmCycle f).andThen fun c s =>
  let r :=
    match sup with
    | none => s.fsmAction f none c
    | some b => s.fsmAction f b.cls { c with bit := b.bit }
  .ok r.1 r.2

/-- `ANALYZE()` (R116). -/
def State.analyze (f : FrameState) (sup : Option SuppliedBit) (s : State) : State :=
  (s.fsmStep f sup).orTerminate fun r s =>
  match r with
  | .goOn => { s with phase := .analyzeCommand }
  | .complete => ({ s with phase := .findCmdStart }).progress
  | .abort => ({ s with phase := .findCmdStart }).progress

end Sys2Proof.Machine
end

