-- ==== Sys2Proof/Machine/Driver.lean ====
section
/-! DEFINITION. The Decode Driver (spec/45_decode_driver.md): leaving the data phase, the cancel request, and what an
iteration of each phase does. -/

namespace Sys2Proof.Machine

open Sys2Proof

/-- Leaving data reading, or finding no data (R119, R120, D34): the known command start is next, or nothing is. -/
def State.afterData (s : State) : State :=
  if s.cmdStartValid then { s with phase := .analyzeCommand } else s.terminate .exhausted

/-- `READ()` (R116). -/
def State.read (src : Option Byte) (s : State) : State :=
  (s.extractByte src).orTerminate fun r s =>
  match r with
  | .byteDone => { s with phase := .readData }
  | .blockDoneMore => { s with phase := .readData }
  | .blockDoneNoMore => s.afterData
  | .interrupted => s.afterData

/-- The `FindCmdStart` iteration (R116). -/
def State.iterateLocate (s : State) : State :=
  s.locate.orTerminate fun _ s => { s with phase := .findDataStart }

/-- The `FindDataStart` iteration (R116), with the first operation of the phase it selects (R119). -/
def State.iterateArbitrate (s : State) : State :=
  s.arbitrate.orTerminate fun a s =>
  match a with
  | .dataPresent =>
    s.alignData.orTerminate fun _ s => ({ s with phase := .readData }).read none
  | .noData =>
    if s.cmdStartValid then ({ s with phase := .analyzeCommand }).analyze s.frameState none
    else s.terminate .exhausted

/-- `cancel_request` as this iteration reads it (R118). -/
def State.cancelRequest (s : State) : Bool := s.cancelRequests.headD false

/-- The inputs of this iteration taken: the value of `cancel_request`, and the presented unit. -/
def State.taken (s : State) : State :=
  { s with cancelRequests := s.cancelRequests.tail, presented := none }

end Sys2Proof.Machine
end

