-- ==== Sys2Proof/Machine/FrameUnits.lean ====
section
/-! DEFINITION. A whole bus frame: the FSM cycles of one exchange, StartBit to Stop, with the frame's bits in place of the
sampled ones (R46 to R48, R61, R110; log 5, log 21). The clock, the cursors, the registers and the output are driven
exactly as by the control rows, one cycle a bit. At the end, what the machine does with a unit that no row of the table
matches (R60; log 8). -/

namespace Sys2Proof.Machine

open Sys2Proof

/-- The iterations after the first: each looks at `cancel_request` (R118), and each takes one bit of the frame while the
driver stays in `AnalyzeCommand`. -/
def State.exchangeRest (cls : Option FrameClass) : List Bool → State → State
  | [], s => s
  | b :: bs, s =>
    if s.phase = .analyzeCommand then
      if s.cancelRequest then s.taken.terminate .cancelled
      else State.exchangeRest cls bs (s.taken.analyze s.frameState (some { bit := b, cls := cls }))
    else s

/-- The exchange of the bits of a frame: the driver enters `AnalyzeCommand` with the FSM in StartBit, as it does at every
command start (R116, R119, R120). Where no classification is given, CommandField classifies by R100. -/
def State.exchange (cls : Option FrameClass) (bits : List Bool) (s : State) : State :=
  match bits with
  | [] => s
  | b :: bs =>
    State.exchangeRest cls bs
      (({ s with phase := .analyzeCommand, frameState := .startBit }).analyze .startBit
        (some { bit := b, cls := cls }))

/-- The exchange of a frame whose row says how its CommandField is classified (log 19). -/
def State.runFrame (cls : FrameClass) (bits : List Bool) (s : State) : State := s.exchange (some cls) bits

/-- A unit that no row matches. A reserved control word acts as HALT, the one effect the spec allows it (U12). A frame has
the effect of its bits on the FSM, which has no illegal-frame condition (R60): a start bit of 1 is a soft reset (R59 (b),
R132), and the length is what the FSM makes of the bits, not the number presented (R61 (a)). A byte-unit of a format that
`n_dat` does not select (R59) is no unit of the block and stops as its row does (log 12). -/
def State.runUnmatched (u : BusUnit) (s : State) : Host.Outcome State Fault Refusal :=
  match u with
  | .control _ => .next s
  | .frame48 w => .next (s.exchange none (bitsOf w))
  | .frame136 w => .next (s.exchange none (bitsOf w))
  | .unit1 _ => .fault .dataFormatNotSelected
  | .unit4 _ => .fault .dataFormatNotSelected

end Sys2Proof.Machine
end

