-- ==== Sys2Proof/Machine/AppCommands.lean ====
section
/-! DEFINITION. The 24 application commands `ACMDn`, n in `ACMD_SET` (R46, R59 (b), R100). -/

namespace Sys2Proof.Machine

open Sys2Proof

/-- ACMD6 (R46, R59 (b), R100): an exchange whose CommandField is an AppCommand of value 6. -/
def execAcmd6 (arg : BitVec 32) (crc : BitVec 7) (stop : BitVec 1) (s : State) : Host.Outcome State Fault Refusal :=
  .next (s.runFrame .appCommand (bitsOf (hostFrame 6 arg crc stop)))

/-- ACMD13 (R46, R59 (b), R100): an exchange whose CommandField is an AppCommand of value 13. -/
def execAcmd13 (arg : BitVec 32) (crc : BitVec 7) (stop : BitVec 1) (s : State) : Host.Outcome State Fault Refusal :=
  .next (s.runFrame .appCommand (bitsOf (hostFrame 13 arg crc stop)))

/-- ACMD17 (R46, R59 (b), R100): an exchange whose CommandField is an AppCommand of value 17. -/
def execAcmd17 (arg : BitVec 32) (crc : BitVec 7) (stop : BitVec 1) (s : State) : Host.Outcome State Fault Refusal :=
  .next (s.runFrame .appCommand (bitsOf (hostFrame 17 arg crc stop)))

/-- ACMD18 (R46, R59 (b), R100): an exchange whose CommandField is an AppCommand of value 18. -/
def execAcmd18 (arg : BitVec 32) (crc : BitVec 7) (stop : BitVec 1) (s : State) : Host.Outcome State Fault Refusal :=
  .next (s.runFrame .appCommand (bitsOf (hostFrame 18 arg crc stop)))

/-- ACMD19 (R46, R59 (b), R100): an exchange whose CommandField is an AppCommand of value 19. -/
def execAcmd19 (arg : BitVec 32) (crc : BitVec 7) (stop : BitVec 1) (s : State) : Host.Outcome State Fault Refusal :=
  .next (s.runFrame .appCommand (bitsOf (hostFrame 19 arg crc stop)))

/-- ACMD20 (R46, R59 (b), R100): an exchange whose CommandField is an AppCommand of value 20. -/
def execAcmd20 (arg : BitVec 32) (crc : BitVec 7) (stop : BitVec 1) (s : State) : Host.Outcome State Fault Refusal :=
  .next (s.runFrame .appCommand (bitsOf (hostFrame 20 arg crc stop)))

/-- ACMD21 (R46, R59 (b), R100): an exchange whose CommandField is an AppCommand of value 21. -/
def execAcmd21 (arg : BitVec 32) (crc : BitVec 7) (stop : BitVec 1) (s : State) : Host.Outcome State Fault Refusal :=
  .next (s.runFrame .appCommand (bitsOf (hostFrame 21 arg crc stop)))

/-- ACMD22 (R46, R59 (b), R100): an exchange whose CommandField is an AppCommand of value 22. -/
def execAcmd22 (arg : BitVec 32) (crc : BitVec 7) (stop : BitVec 1) (s : State) : Host.Outcome State Fault Refusal :=
  .next (s.runFrame .appCommand (bitsOf (hostFrame 22 arg crc stop)))

/-- ACMD23 (R46, R59 (b), R100): an exchange whose CommandField is an AppCommand of value 23. -/
def execAcmd23 (arg : BitVec 32) (crc : BitVec 7) (stop : BitVec 1) (s : State) : Host.Outcome State Fault Refusal :=
  .next (s.runFrame .appCommand (bitsOf (hostFrame 23 arg crc stop)))

/-- ACMD24 (R46, R59 (b), R100): an exchange whose CommandField is an AppCommand of value 24. -/
def execAcmd24 (arg : BitVec 32) (crc : BitVec 7) (stop : BitVec 1) (s : State) : Host.Outcome State Fault Refusal :=
  .next (s.runFrame .appCommand (bitsOf (hostFrame 24 arg crc stop)))

/-- ACMD25 (R46, R59 (b), R100): an exchange whose CommandField is an AppCommand of value 25. -/
def execAcmd25 (arg : BitVec 32) (crc : BitVec 7) (stop : BitVec 1) (s : State) : Host.Outcome State Fault Refusal :=
  .next (s.runFrame .appCommand (bitsOf (hostFrame 25 arg crc stop)))

/-- ACMD38 (R46, R59 (b), R100): an exchange whose CommandField is an AppCommand of value 38. -/
def execAcmd38 (arg : BitVec 32) (crc : BitVec 7) (stop : BitVec 1) (s : State) : Host.Outcome State Fault Refusal :=
  .next (s.runFrame .appCommand (bitsOf (hostFrame 38 arg crc stop)))

/-- ACMD39 (R46, R59 (b), R100): an exchange whose CommandField is an AppCommand of value 39. -/
def execAcmd39 (arg : BitVec 32) (crc : BitVec 7) (stop : BitVec 1) (s : State) : Host.Outcome State Fault Refusal :=
  .next (s.runFrame .appCommand (bitsOf (hostFrame 39 arg crc stop)))

/-- ACMD40 (R46, R59 (b), R100): an exchange whose CommandField is an AppCommand of value 40. -/
def execAcmd40 (arg : BitVec 32) (crc : BitVec 7) (stop : BitVec 1) (s : State) : Host.Outcome State Fault Refusal :=
  .next (s.runFrame .appCommand (bitsOf (hostFrame 40 arg crc stop)))

/-- ACMD41 (R46, R59 (b), R100): an exchange whose CommandField is an AppCommand of value 41. -/
def execAcmd41 (arg : BitVec 32) (crc : BitVec 7) (stop : BitVec 1) (s : State) : Host.Outcome State Fault Refusal :=
  .next (s.runFrame .appCommand (bitsOf (hostFrame 41 arg crc stop)))

/-- ACMD42 (R46, R59 (b), R100): an exchange whose CommandField is an AppCommand of value 42. -/
def execAcmd42 (arg : BitVec 32) (crc : BitVec 7) (stop : BitVec 1) (s : State) : Host.Outcome State Fault Refusal :=
  .next (s.runFrame .appCommand (bitsOf (hostFrame 42 arg crc stop)))

/-- ACMD43 (R46, R59 (b), R100): an exchange whose CommandField is an AppCommand of value 43. -/
def execAcmd43 (arg : BitVec 32) (crc : BitVec 7) (stop : BitVec 1) (s : State) : Host.Outcome State Fault Refusal :=
  .next (s.runFrame .appCommand (bitsOf (hostFrame 43 arg crc stop)))

/-- ACMD44 (R46, R59 (b), R100): an exchange whose CommandField is an AppCommand of value 44. -/
def execAcmd44 (arg : BitVec 32) (crc : BitVec 7) (stop : BitVec 1) (s : State) : Host.Outcome State Fault Refusal :=
  .next (s.runFrame .appCommand (bitsOf (hostFrame 44 arg crc stop)))

/-- ACMD45 (R46, R59 (b), R100): an exchange whose CommandField is an AppCommand of value 45. -/
def execAcmd45 (arg : BitVec 32) (crc : BitVec 7) (stop : BitVec 1) (s : State) : Host.Outcome State Fault Refusal :=
  .next (s.runFrame .appCommand (bitsOf (hostFrame 45 arg crc stop)))

/-- ACMD46 (R46, R59 (b), R100): an exchange whose CommandField is an AppCommand of value 46. -/
def execAcmd46 (arg : BitVec 32) (crc : BitVec 7) (stop : BitVec 1) (s : State) : Host.Outcome State Fault Refusal :=
  .next (s.runFrame .appCommand (bitsOf (hostFrame 46 arg crc stop)))

/-- ACMD47 (R46, R59 (b), R100): an exchange whose CommandField is an AppCommand of value 47. -/
def execAcmd47 (arg : BitVec 32) (crc : BitVec 7) (stop : BitVec 1) (s : State) : Host.Outcome State Fault Refusal :=
  .next (s.runFrame .appCommand (bitsOf (hostFrame 47 arg crc stop)))

/-- ACMD48 (R46, R59 (b), R100): an exchange whose CommandField is an AppCommand of value 48. -/
def execAcmd48 (arg : BitVec 32) (crc : BitVec 7) (stop : BitVec 1) (s : State) : Host.Outcome State Fault Refusal :=
  .next (s.runFrame .appCommand (bitsOf (hostFrame 48 arg crc stop)))

/-- ACMD49 (R46, R59 (b), R100): an exchange whose CommandField is an AppCommand of value 49. -/
def execAcmd49 (arg : BitVec 32) (crc : BitVec 7) (stop : BitVec 1) (s : State) : Host.Outcome State Fault Refusal :=
  .next (s.runFrame .appCommand (bitsOf (hostFrame 49 arg crc stop)))

/-- ACMD51 (R46, R59 (b), R100): an exchange whose CommandField is an AppCommand of value 51. -/
def execAcmd51 (arg : BitVec 32) (crc : BitVec 7) (stop : BitVec 1) (s : State) : Host.Outcome State Fault Refusal :=
  .next (s.runFrame .appCommand (bitsOf (hostFrame 51 arg crc stop)))


end Sys2Proof.Machine
end

