-- ==== Sys2Proof/Machine/Control.lean ====
section
/-! DEFINITION. The meanings of the ten control rows (R59 (a)): one driver iteration each, after `cancel_request` has been
looked at (R116, R118). The don't-care bits of a control word are read by nothing. -/

namespace Sys2Proof.Machine

open Sys2Proof

/-- LOCATE (R74, R116). -/
def execLocate (_sss : BitVec 3) (s : State) : Host.Outcome State Fault Refusal :=
  .next s.iterateLocate

/-- ARBITRATE (R80, R82, R116, R119). -/
def execArbitrate (_sss : BitVec 3) (s : State) : Host.Outcome State Fault Refusal :=
  .next s.iterateArbitrate

/-- EXTRACT_BYTE (R94, R116). With no data line there is no cursor to read (R23, R85; log 11). -/
def execExtractByte (_sss : BitVec 3) (s : State) : Host.Outcome State Fault Refusal :=
  match s.dat with
  | .absent => .fault .absentDataLine
  | .one _ => .next (s.read none)
  | .four _ _ _ _ => .next (s.read none)

/-- FSM.StartBit (R97, R116). -/
def execFsmStartBit (s : State) : Host.Outcome State Fault Refusal :=
  .next (s.analyze .startBit none)

/-- FSM.Direction (R98, R116). -/
def execFsmDirection (s : State) : Host.Outcome State Fault Refusal :=
  .next (s.analyze .direction none)

/-- FSM.CommandField (R99, R100, R116). -/
def execFsmCommandField (s : State) : Host.Outcome State Fault Refusal :=
  .next (s.analyze .commandField none)

/-- FSM.ArgumentField (R101, R102, R116). -/
def execFsmArgumentField (s : State) : Host.Outcome State Fault Refusal :=
  .next (s.analyze .argumentField none)

/-- FSM.CRC7 (R103, R116). -/
def execFsmCrc7 (s : State) : Host.Outcome State Fault Refusal :=
  .next (s.analyze .crc7 none)

/-- FSM.Stop (R104, R116). -/
def execFsmStop (s : State) : Host.Outcome State Fault Refusal :=
  .next (s.analyze .stop none)

/-- HALT (R59 (a), R121): "no operation; the run has ended" (log 6). -/
def execHalt (_sss : BitVec 3) (s : State) : Host.Outcome State Fault Refusal :=
  .next s

end Sys2Proof.Machine
end

