-- ==== Sys2Proof/Machine/DataUnits.lean ====
section
/-! DEFINITION. The byte-units `DATA1` and `DATA4` (R49, R50, R86, R87): one EXTRACT_BYTE iteration whose bits are the
unit's (log 24). -/

namespace Sys2Proof.Machine

open Sys2Proof

/-- DATA1 (R49, R86): selected by `n_dat = 1` (R59; log 12). -/
def execData1 (d : Byte) (s : State) : Host.Outcome State Fault Refusal :=
  match s.dat with
  | .absent => .fault .dataFormatNotSelected
  | .one _ => .next (s.read (some d))
  | .four _ _ _ _ => .fault .dataFormatNotSelected

/-- DATA4 (R50, R87): selected by `n_dat = 4` (R59; log 12). -/
def execData4 (d : Byte) (s : State) : Host.Outcome State Fault Refusal :=
  match s.dat with
  | .absent => .fault .dataFormatNotSelected
  | .one _ => .fault .dataFormatNotSelected
  | .four _ _ _ _ => .next (s.read (some d))

end Sys2Proof.Machine
end

