-- ==== Sys2Proof/Machine/HostCommands.lean ====
section
/-! DEFINITION. The 64 host commands `CMDn` (R46, R59 (b), R100). -/

namespace Sys2Proof.Machine

open Sys2Proof

/-- CMD0 (R46, R59 (b), R100): an exchange whose CommandField is a Command of value 0. -/
def execCmd0 (arg : BitVec 32) (crc : BitVec 7) (stop : BitVec 1) (s : State) : Host.Outcome State Fault Refusal :=
  .next (s.runFrame .command (bitsOf (hostFrame 0 arg crc stop)))

/-- CMD1 (R46, R59 (b), R100): an exchange whose CommandField is a Command of value 1. -/
def execCmd1 (arg : BitVec 32) (crc : BitVec 7) (stop : BitVec 1) (s : State) : Host.Outcome State Fault Refusal :=
  .next (s.runFrame .command (bitsOf (hostFrame 1 arg crc stop)))

/-- CMD2 (R46, R59 (b), R100): an exchange whose CommandField is a Command of value 2. -/
def execCmd2 (arg : BitVec 32) (crc : BitVec 7) (stop : BitVec 1) (s : State) : Host.Outcome State Fault Refusal :=
  .next (s.runFrame .command (bitsOf (hostFrame 2 arg crc stop)))

/-- CMD3 (R46, R59 (b), R100): an exchange whose CommandField is a Command of value 3. -/
def execCmd3 (arg : BitVec 32) (crc : BitVec 7) (stop : BitVec 1) (s : State) : Host.Outcome State Fault Refusal :=
  .next (s.runFrame .command (bitsOf (hostFrame 3 arg crc stop)))

/-- CMD4 (R46, R59 (b), R100): an exchange whose CommandField is a Command of value 4. -/
def execCmd4 (arg : BitVec 32) (crc : BitVec 7) (stop : BitVec 1) (s : State) : Host.Outcome State Fault Refusal :=
  .next (s.runFrame .command (bitsOf (hostFrame 4 arg crc stop)))

/-- CMD5 (R46, R59 (b), R100): an exchange whose CommandField is a Command of value 5. -/
def execCmd5 (arg : BitVec 32) (crc : BitVec 7) (stop : BitVec 1) (s : State) : Host.Outcome State Fault Refusal :=
  .next (s.runFrame .command (bitsOf (hostFrame 5 arg crc stop)))

/-- CMD6 (R46, R59 (b), R100): an exchange whose CommandField is a Command of value 6. -/
def execCmd6 (arg : BitVec 32) (crc : BitVec 7) (stop : BitVec 1) (s : State) : Host.Outcome State Fault Refusal :=
  .next (s.runFrame .command (bitsOf (hostFrame 6 arg crc stop)))

/-- CMD7 (R46, R59 (b), R100): an exchange whose CommandField is a Command of value 7. -/
def execCmd7 (arg : BitVec 32) (crc : BitVec 7) (stop : BitVec 1) (s : State) : Host.Outcome State Fault Refusal :=
  .next (s.runFrame .command (bitsOf (hostFrame 7 arg crc stop)))

/-- CMD8 (R46, R59 (b), R100): an exchange whose CommandField is a Command of value 8. -/
def execCmd8 (arg : BitVec 32) (crc : BitVec 7) (stop : BitVec 1) (s : State) : Host.Outcome State Fault Refusal :=
  .next (s.runFrame .command (bitsOf (hostFrame 8 arg crc stop)))

/-- CMD9 (R46, R59 (b), R100): an exchange whose CommandField is a Command of value 9. -/
def execCmd9 (arg : BitVec 32) (crc : BitVec 7) (stop : BitVec 1) (s : State) : Host.Outcome State Fault Refusal :=
  .next (s.runFrame .command (bitsOf (hostFrame 9 arg crc stop)))

/-- CMD10 (R46, R59 (b), R100): an exchange whose CommandField is a Command of value 10. -/
def execCmd10 (arg : BitVec 32) (crc : BitVec 7) (stop : BitVec 1) (s : State) : Host.Outcome State Fault Refusal :=
  .next (s.runFrame .command (bitsOf (hostFrame 10 arg crc stop)))

/-- CMD11 (R46, R59 (b), R100): an exchange whose CommandField is a Command of value 11. -/
def execCmd11 (arg : BitVec 32) (crc : BitVec 7) (stop : BitVec 1) (s : State) : Host.Outcome State Fault Refusal :=
  .next (s.runFrame .command (bitsOf (hostFrame 11 arg crc stop)))

/-- CMD12 (R46, R59 (b), R100): an exchange whose CommandField is a Command of value 12. -/
def execCmd12 (arg : BitVec 32) (crc : BitVec 7) (stop : BitVec 1) (s : State) : Host.Outcome State Fault Refusal :=
  .next (s.runFrame .command (bitsOf (hostFrame 12 arg crc stop)))

/-- CMD13 (R46, R59 (b), R100): an exchange whose CommandField is a Command of value 13. -/
def execCmd13 (arg : BitVec 32) (crc : BitVec 7) (stop : BitVec 1) (s : State) : Host.Outcome State Fault Refusal :=
  .next (s.runFrame .command (bitsOf (hostFrame 13 arg crc stop)))

/-- CMD14 (R46, R59 (b), R100): an exchange whose CommandField is a Command of value 14. -/
def execCmd14 (arg : BitVec 32) (crc : BitVec 7) (stop : BitVec 1) (s : State) : Host.Outcome State Fault Refusal :=
  .next (s.runFrame .command (bitsOf (hostFrame 14 arg crc stop)))

/-- CMD15 (R46, R59 (b), R100): an exchange whose CommandField is a Command of value 15. -/
def execCmd15 (arg : BitVec 32) (crc : BitVec 7) (stop : BitVec 1) (s : State) : Host.Outcome State Fault Refusal :=
  .next (s.runFrame .command (bitsOf (hostFrame 15 arg crc stop)))

/-- CMD16 (R46, R59 (b), R100): an exchange whose CommandField is a Command of value 16. -/
def execCmd16 (arg : BitVec 32) (crc : BitVec 7) (stop : BitVec 1) (s : State) : Host.Outcome State Fault Refusal :=
  .next (s.runFrame .command (bitsOf (hostFrame 16 arg crc stop)))

/-- CMD17 (R46, R59 (b), R100): an exchange whose CommandField is a Command of value 17. -/
def execCmd17 (arg : BitVec 32) (crc : BitVec 7) (stop : BitVec 1) (s : State) : Host.Outcome State Fault Refusal :=
  .next (s.runFrame .command (bitsOf (hostFrame 17 arg crc stop)))

/-- CMD18 (R46, R59 (b), R100): an exchange whose CommandField is a Command of value 18. -/
def execCmd18 (arg : BitVec 32) (crc : BitVec 7) (stop : BitVec 1) (s : State) : Host.Outcome State Fault Refusal :=
  .next (s.runFrame .command (bitsOf (hostFrame 18 arg crc stop)))

/-- CMD19 (R46, R59 (b), R100): an exchange whose CommandField is a Command of value 19. -/
def execCmd19 (arg : BitVec 32) (crc : BitVec 7) (stop : BitVec 1) (s : State) : Host.Outcome State Fault Refusal :=
  .next (s.runFrame .command (bitsOf (hostFrame 19 arg crc stop)))

/-- CMD20 (R46, R59 (b), R100): an exchange whose CommandField is a Command of value 20. -/
def execCmd20 (arg : BitVec 32) (crc : BitVec 7) (stop : BitVec 1) (s : State) : Host.Outcome State Fault Refusal :=
  .next (s.runFrame .command (bitsOf (hostFrame 20 arg crc stop)))

/-- CMD21 (R46, R59 (b), R100): an exchange whose CommandField is a Command of value 21. -/
def execCmd21 (arg : BitVec 32) (crc : BitVec 7) (stop : BitVec 1) (s : State) : Host.Outcome State Fault Refusal :=
  .next (s.runFrame .command (bitsOf (hostFrame 21 arg crc stop)))

/-- CMD22 (R46, R59 (b), R100): an exchange whose CommandField is a Command of value 22. -/
def execCmd22 (arg : BitVec 32) (crc : BitVec 7) (stop : BitVec 1) (s : State) : Host.Outcome State Fault Refusal :=
  .next (s.runFrame .command (bitsOf (hostFrame 22 arg crc stop)))

/-- CMD23 (R46, R59 (b), R100): an exchange whose CommandField is a Command of value 23. -/
def execCmd23 (arg : BitVec 32) (crc : BitVec 7) (stop : BitVec 1) (s : State) : Host.Outcome State Fault Refusal :=
  .next (s.runFrame .command (bitsOf (hostFrame 23 arg crc stop)))

/-- CMD24 (R46, R59 (b), R100): an exchange whose CommandField is a Command of value 24. -/
def execCmd24 (arg : BitVec 32) (crc : BitVec 7) (stop : BitVec 1) (s : State) : Host.Outcome State Fault Refusal :=
  .next (s.runFrame .command (bitsOf (hostFrame 24 arg crc stop)))

/-- CMD25 (R46, R59 (b), R100): an exchange whose CommandField is a Command of value 25. -/
def execCmd25 (arg : BitVec 32) (crc : BitVec 7) (stop : BitVec 1) (s : State) : Host.Outcome State Fault Refusal :=
  .next (s.runFrame .command (bitsOf (hostFrame 25 arg crc stop)))

/-- CMD26 (R46, R59 (b), R100): an exchange whose CommandField is a Command of value 26. -/
def execCmd26 (arg : BitVec 32) (crc : BitVec 7) (stop : BitVec 1) (s : State) : Host.Outcome State Fault Refusal :=
  .next (s.runFrame .command (bitsOf (hostFrame 26 arg crc stop)))

/-- CMD27 (R46, R59 (b), R100): an exchange whose CommandField is a Command of value 27. -/
def execCmd27 (arg : BitVec 32) (crc : BitVec 7) (stop : BitVec 1) (s : State) : Host.Outcome State Fault Refusal :=
  .next (s.runFrame .command (bitsOf (hostFrame 27 arg crc stop)))

/-- CMD28 (R46, R59 (b), R100): an exchange whose CommandField is a Command of value 28. -/
def execCmd28 (arg : BitVec 32) (crc : BitVec 7) (stop : BitVec 1) (s : State) : Host.Outcome State Fault Refusal :=
  .next (s.runFrame .command (bitsOf (hostFrame 28 arg crc stop)))

/-- CMD29 (R46, R59 (b), R100): an exchange whose CommandField is a Command of value 29. -/
def execCmd29 (arg : BitVec 32) (crc : BitVec 7) (stop : BitVec 1) (s : State) : Host.Outcome State Fault Refusal :=
  .next (s.runFrame .command (bitsOf (hostFrame 29 arg crc stop)))

/-- CMD30 (R46, R59 (b), R100): an exchange whose CommandField is a Command of value 30. -/
def execCmd30 (arg : BitVec 32) (crc : BitVec 7) (stop : BitVec 1) (s : State) : Host.Outcome State Fault Refusal :=
  .next (s.runFrame .command (bitsOf (hostFrame 30 arg crc stop)))

/-- CMD31 (R46, R59 (b), R100): an exchange whose CommandField is a Command of value 31. -/
def execCmd31 (arg : BitVec 32) (crc : BitVec 7) (stop : BitVec 1) (s : State) : Host.Outcome State Fault Refusal :=
  .next (s.runFrame .command (bitsOf (hostFrame 31 arg crc stop)))

/-- CMD32 (R46, R59 (b), R100): an exchange whose CommandField is a Command of value 32. -/
def execCmd32 (arg : BitVec 32) (crc : BitVec 7) (stop : BitVec 1) (s : State) : Host.Outcome State Fault Refusal :=
  .next (s.runFrame .command (bitsOf (hostFrame 32 arg crc stop)))

/-- CMD33 (R46, R59 (b), R100): an exchange whose CommandField is a Command of value 33. -/
def execCmd33 (arg : BitVec 32) (crc : BitVec 7) (stop : BitVec 1) (s : State) : Host.Outcome State Fault Refusal :=
  .next (s.runFrame .command (bitsOf (hostFrame 33 arg crc stop)))

/-- CMD34 (R46, R59 (b), R100): an exchange whose CommandField is a Command of value 34. -/
def execCmd34 (arg : BitVec 32) (crc : BitVec 7) (stop : BitVec 1) (s : State) : Host.Outcome State Fault Refusal :=
  .next (s.runFrame .command (bitsOf (hostFrame 34 arg crc stop)))

/-- CMD35 (R46, R59 (b), R100): an exchange whose CommandField is a Command of value 35. -/
def execCmd35 (arg : BitVec 32) (crc : BitVec 7) (stop : BitVec 1) (s : State) : Host.Outcome State Fault Refusal :=
  .next (s.runFrame .command (bitsOf (hostFrame 35 arg crc stop)))

/-- CMD36 (R46, R59 (b), R100): an exchange whose CommandField is a Command of value 36. -/
def execCmd36 (arg : BitVec 32) (crc : BitVec 7) (stop : BitVec 1) (s : State) : Host.Outcome State Fault Refusal :=
  .next (s.runFrame .command (bitsOf (hostFrame 36 arg crc stop)))

/-- CMD37 (R46, R59 (b), R100): an exchange whose CommandField is a Command of value 37. -/
def execCmd37 (arg : BitVec 32) (crc : BitVec 7) (stop : BitVec 1) (s : State) : Host.Outcome State Fault Refusal :=
  .next (s.runFrame .command (bitsOf (hostFrame 37 arg crc stop)))

/-- CMD38 (R46, R59 (b), R100): an exchange whose CommandField is a Command of value 38. -/
def execCmd38 (arg : BitVec 32) (crc : BitVec 7) (stop : BitVec 1) (s : State) : Host.Outcome State Fault Refusal :=
  .next (s.runFrame .command (bitsOf (hostFrame 38 arg crc stop)))

/-- CMD39 (R46, R59 (b), R100): an exchange whose CommandField is a Command of value 39. -/
def execCmd39 (arg : BitVec 32) (crc : BitVec 7) (stop : BitVec 1) (s : State) : Host.Outcome State Fault Refusal :=
  .next (s.runFrame .command (bitsOf (hostFrame 39 arg crc stop)))

/-- CMD40 (R46, R59 (b), R100): an exchange whose CommandField is a Command of value 40. -/
def execCmd40 (arg : BitVec 32) (crc : BitVec 7) (stop : BitVec 1) (s : State) : Host.Outcome State Fault Refusal :=
  .next (s.runFrame .command (bitsOf (hostFrame 40 arg crc stop)))

/-- CMD41 (R46, R59 (b), R100): an exchange whose CommandField is a Command of value 41. -/
def execCmd41 (arg : BitVec 32) (crc : BitVec 7) (stop : BitVec 1) (s : State) : Host.Outcome State Fault Refusal :=
  .next (s.runFrame .command (bitsOf (hostFrame 41 arg crc stop)))

/-- CMD42 (R46, R59 (b), R100): an exchange whose CommandField is a Command of value 42. -/
def execCmd42 (arg : BitVec 32) (crc : BitVec 7) (stop : BitVec 1) (s : State) : Host.Outcome State Fault Refusal :=
  .next (s.runFrame .command (bitsOf (hostFrame 42 arg crc stop)))

/-- CMD43 (R46, R59 (b), R100): an exchange whose CommandField is a Command of value 43. -/
def execCmd43 (arg : BitVec 32) (crc : BitVec 7) (stop : BitVec 1) (s : State) : Host.Outcome State Fault Refusal :=
  .next (s.runFrame .command (bitsOf (hostFrame 43 arg crc stop)))

/-- CMD44 (R46, R59 (b), R100): an exchange whose CommandField is a Command of value 44. -/
def execCmd44 (arg : BitVec 32) (crc : BitVec 7) (stop : BitVec 1) (s : State) : Host.Outcome State Fault Refusal :=
  .next (s.runFrame .command (bitsOf (hostFrame 44 arg crc stop)))

/-- CMD45 (R46, R59 (b), R100): an exchange whose CommandField is a Command of value 45. -/
def execCmd45 (arg : BitVec 32) (crc : BitVec 7) (stop : BitVec 1) (s : State) : Host.Outcome State Fault Refusal :=
  .next (s.runFrame .command (bitsOf (hostFrame 45 arg crc stop)))

/-- CMD46 (R46, R59 (b), R100): an exchange whose CommandField is a Command of value 46. -/
def execCmd46 (arg : BitVec 32) (crc : BitVec 7) (stop : BitVec 1) (s : State) : Host.Outcome State Fault Refusal :=
  .next (s.runFrame .command (bitsOf (hostFrame 46 arg crc stop)))

/-- CMD47 (R46, R59 (b), R100): an exchange whose CommandField is a Command of value 47. -/
def execCmd47 (arg : BitVec 32) (crc : BitVec 7) (stop : BitVec 1) (s : State) : Host.Outcome State Fault Refusal :=
  .next (s.runFrame .command (bitsOf (hostFrame 47 arg crc stop)))

/-- CMD48 (R46, R59 (b), R100): an exchange whose CommandField is a Command of value 48. -/
def execCmd48 (arg : BitVec 32) (crc : BitVec 7) (stop : BitVec 1) (s : State) : Host.Outcome State Fault Refusal :=
  .next (s.runFrame .command (bitsOf (hostFrame 48 arg crc stop)))

/-- CMD49 (R46, R59 (b), R100): an exchange whose CommandField is a Command of value 49. -/
def execCmd49 (arg : BitVec 32) (crc : BitVec 7) (stop : BitVec 1) (s : State) : Host.Outcome State Fault Refusal :=
  .next (s.runFrame .command (bitsOf (hostFrame 49 arg crc stop)))

/-- CMD50 (R46, R59 (b), R100): an exchange whose CommandField is a Command of value 50. -/
def execCmd50 (arg : BitVec 32) (crc : BitVec 7) (stop : BitVec 1) (s : State) : Host.Outcome State Fault Refusal :=
  .next (s.runFrame .command (bitsOf (hostFrame 50 arg crc stop)))

/-- CMD51 (R46, R59 (b), R100): an exchange whose CommandField is a Command of value 51. -/
def execCmd51 (arg : BitVec 32) (crc : BitVec 7) (stop : BitVec 1) (s : State) : Host.Outcome State Fault Refusal :=
  .next (s.runFrame .command (bitsOf (hostFrame 51 arg crc stop)))

/-- CMD52 (R46, R59 (b), R100): an exchange whose CommandField is a Command of value 52. -/
def execCmd52 (arg : BitVec 32) (crc : BitVec 7) (stop : BitVec 1) (s : State) : Host.Outcome State Fault Refusal :=
  .next (s.runFrame .command (bitsOf (hostFrame 52 arg crc stop)))

/-- CMD53 (R46, R59 (b), R100): an exchange whose CommandField is a Command of value 53. -/
def execCmd53 (arg : BitVec 32) (crc : BitVec 7) (stop : BitVec 1) (s : State) : Host.Outcome State Fault Refusal :=
  .next (s.runFrame .command (bitsOf (hostFrame 53 arg crc stop)))

/-- CMD54 (R46, R59 (b), R100): an exchange whose CommandField is a Command of value 54. -/
def execCmd54 (arg : BitVec 32) (crc : BitVec 7) (stop : BitVec 1) (s : State) : Host.Outcome State Fault Refusal :=
  .next (s.runFrame .command (bitsOf (hostFrame 54 arg crc stop)))

/-- CMD55 (R46, R59 (b), R100): an exchange whose CommandField is a Command of value 55. -/
def execCmd55 (arg : BitVec 32) (crc : BitVec 7) (stop : BitVec 1) (s : State) : Host.Outcome State Fault Refusal :=
  .next (s.runFrame .command (bitsOf (hostFrame 55 arg crc stop)))

/-- CMD56 (R46, R59 (b), R100): an exchange whose CommandField is a Command of value 56. -/
def execCmd56 (arg : BitVec 32) (crc : BitVec 7) (stop : BitVec 1) (s : State) : Host.Outcome State Fault Refusal :=
  .next (s.runFrame .command (bitsOf (hostFrame 56 arg crc stop)))

/-- CMD57 (R46, R59 (b), R100): an exchange whose CommandField is a Command of value 57. -/
def execCmd57 (arg : BitVec 32) (crc : BitVec 7) (stop : BitVec 1) (s : State) : Host.Outcome State Fault Refusal :=
  .next (s.runFrame .command (bitsOf (hostFrame 57 arg crc stop)))

/-- CMD58 (R46, R59 (b), R100): an exchange whose CommandField is a Command of value 58. -/
def execCmd58 (arg : BitVec 32) (crc : BitVec 7) (stop : BitVec 1) (s : State) : Host.Outcome State Fault Refusal :=
  .next (s.runFrame .command (bitsOf (hostFrame 58 arg crc stop)))

/-- CMD59 (R46, R59 (b), R100): an exchange whose CommandField is a Command of value 59. -/
def execCmd59 (arg : BitVec 32) (crc : BitVec 7) (stop : BitVec 1) (s : State) : Host.Outcome State Fault Refusal :=
  .next (s.runFrame .command (bitsOf (hostFrame 59 arg crc stop)))

/-- CMD60 (R46, R59 (b), R100): an exchange whose CommandField is a Command of value 60. -/
def execCmd60 (arg : BitVec 32) (crc : BitVec 7) (stop : BitVec 1) (s : State) : Host.Outcome State Fault Refusal :=
  .next (s.runFrame .command (bitsOf (hostFrame 60 arg crc stop)))

/-- CMD61 (R46, R59 (b), R100): an exchange whose CommandField is a Command of value 61. -/
def execCmd61 (arg : BitVec 32) (crc : BitVec 7) (stop : BitVec 1) (s : State) : Host.Outcome State Fault Refusal :=
  .next (s.runFrame .command (bitsOf (hostFrame 61 arg crc stop)))

/-- CMD62 (R46, R59 (b), R100): an exchange whose CommandField is a Command of value 62. -/
def execCmd62 (arg : BitVec 32) (crc : BitVec 7) (stop : BitVec 1) (s : State) : Host.Outcome State Fault Refusal :=
  .next (s.runFrame .command (bitsOf (hostFrame 62 arg crc stop)))

/-- CMD63 (R46, R59 (b), R100): an exchange whose CommandField is a Command of value 63. -/
def execCmd63 (arg : BitVec 32) (crc : BitVec 7) (stop : BitVec 1) (s : State) : Host.Outcome State Fault Refusal :=
  .next (s.runFrame .command (bitsOf (hostFrame 63 arg crc stop)))


end Sys2Proof.Machine
end

