-- ==== Sys2Proof/Machine/Responses.lean ====
section
/-! DEFINITION. The responses `RSP` and `RSP_LONG` (R47, R48, R100, R102). -/

namespace Sys2Proof.Machine

open Sys2Proof

/-- RSP (R47, R100): an exchange whose CommandField is a Response with a 32-bit argument. -/
def execRsp (idx : BitVec 6) (arg : BitVec 32) (crc : BitVec 7) (stop : BitVec 1) (s : State) :
    Host.Outcome State Fault Refusal :=
  .next (s.runFrame .response (bitsOf (responseFrame idx arg crc stop)))

/-- RSP_LONG (R48, R102): an exchange whose CommandField is a Response with the long argument. -/
def execRspLong (idx : BitVec 6) (hi : BitVec 64) (lo : BitVec 63) (stop : BitVec 1) (s : State) :
    Host.Outcome State Fault Refusal :=
  .next (s.runFrame .longResponse (bitsOf (pack136 idx hi lo stop)))

end Sys2Proof.Machine
end

