-- ==== Sys2Proof/Machine/Dispatch.lean ====
section
/-! DEFINITION. One arm per constructor of Instr, each one direct call of its meaning. -/

namespace Sys2Proof.Machine

def exec (i : Instr) (s : State) : Host.Outcome State Fault Refusal :=
  match i with
  | .locate sss => Sys2Proof.Machine.execLocate sss s
  | .arbitrate sss => Sys2Proof.Machine.execArbitrate sss s
  | .extractByte sss => Sys2Proof.Machine.execExtractByte sss s
  | .fsmStartBit => Sys2Proof.Machine.execFsmStartBit s
  | .fsmDirection => Sys2Proof.Machine.execFsmDirection s
  | .fsmCommandField => Sys2Proof.Machine.execFsmCommandField s
  | .fsmArgumentField => Sys2Proof.Machine.execFsmArgumentField s
  | .fsmCrc7 => Sys2Proof.Machine.execFsmCrc7 s
  | .fsmStop => Sys2Proof.Machine.execFsmStop s
  | .halt sss => Sys2Proof.Machine.execHalt sss s
  | .acmd6 arg crc stop => Sys2Proof.Machine.execAcmd6 arg crc stop s
  | .acmd13 arg crc stop => Sys2Proof.Machine.execAcmd13 arg crc stop s
  | .acmd17 arg crc stop => Sys2Proof.Machine.execAcmd17 arg crc stop s
  | .acmd18 arg crc stop => Sys2Proof.Machine.execAcmd18 arg crc stop s
  | .acmd19 arg crc stop => Sys2Proof.Machine.execAcmd19 arg crc stop s
  | .acmd20 arg crc stop => Sys2Proof.Machine.execAcmd20 arg crc stop s
  | .acmd21 arg crc stop => Sys2Proof.Machine.execAcmd21 arg crc stop s
  | .acmd22 arg crc stop => Sys2Proof.Machine.execAcmd22 arg crc stop s
  | .acmd23 arg crc stop => Sys2Proof.Machine.execAcmd23 arg crc stop s
  | .acmd24 arg crc stop => Sys2Proof.Machine.execAcmd24 arg crc stop s
  | .acmd25 arg crc stop => Sys2Proof.Machine.execAcmd25 arg crc stop s
  | .acmd38 arg crc stop => Sys2Proof.Machine.execAcmd38 arg crc stop s
  | .acmd39 arg crc stop => Sys2Proof.Machine.execAcmd39 arg crc stop s
  | .acmd40 arg crc stop => Sys2Proof.Machine.execAcmd40 arg crc stop s
  | .acmd41 arg crc stop => Sys2Proof.Machine.execAcmd41 arg crc stop s
  | .acmd42 arg crc stop => Sys2Proof.Machine.execAcmd42 arg crc stop s
  | .acmd43 arg crc stop => Sys2Proof.Machine.execAcmd43 arg crc stop s
  | .acmd44 arg crc stop => Sys2Proof.Machine.execAcmd44 arg crc stop s
  | .acmd45 arg crc stop => Sys2Proof.Machine.execAcmd45 arg crc stop s
  | .acmd46 arg crc stop => Sys2Proof.Machine.execAcmd46 arg crc stop s
  | .acmd47 arg crc stop => Sys2Proof.Machine.execAcmd47 arg crc stop s
  | .acmd48 arg crc stop => Sys2Proof.Machine.execAcmd48 arg crc stop s
  | .acmd49 arg crc stop => Sys2Proof.Machine.execAcmd49 arg crc stop s
  | .acmd51 arg crc stop => Sys2Proof.Machine.execAcmd51 arg crc stop s
  | .cmd0 arg crc stop => Sys2Proof.Machine.execCmd0 arg crc stop s
  | .cmd1 arg crc stop => Sys2Proof.Machine.execCmd1 arg crc stop s
  | .cmd2 arg crc stop => Sys2Proof.Machine.execCmd2 arg crc stop s
  | .cmd3 arg crc stop => Sys2Proof.Machine.execCmd3 arg crc stop s
  | .cmd4 arg crc stop => Sys2Proof.Machine.execCmd4 arg crc stop s
  | .cmd5 arg crc stop => Sys2Proof.Machine.execCmd5 arg crc stop s
  | .cmd6 arg crc stop => Sys2Proof.Machine.execCmd6 arg crc stop s
  | .cmd7 arg crc stop => Sys2Proof.Machine.execCmd7 arg crc stop s
  | .cmd8 arg crc stop => Sys2Proof.Machine.execCmd8 arg crc stop s
  | .cmd9 arg crc stop => Sys2Proof.Machine.execCmd9 arg crc stop s
  | .cmd10 arg crc stop => Sys2Proof.Machine.execCmd10 arg crc stop s
  | .cmd11 arg crc stop => Sys2Proof.Machine.execCmd11 arg crc stop s
  | .cmd12 arg crc stop => Sys2Proof.Machine.execCmd12 arg crc stop s
  | .cmd13 arg crc stop => Sys2Proof.Machine.execCmd13 arg crc stop s
  | .cmd14 arg crc stop => Sys2Proof.Machine.execCmd14 arg crc stop s
  | .cmd15 arg crc stop => Sys2Proof.Machine.execCmd15 arg crc stop s
  | .cmd16 arg crc stop => Sys2Proof.Machine.execCmd16 arg crc stop s
  | .cmd17 arg crc stop => Sys2Proof.Machine.execCmd17 arg crc stop s
  | .cmd18 arg crc stop => Sys2Proof.Machine.execCmd18 arg crc stop s
  | .cmd19 arg crc stop => Sys2Proof.Machine.execCmd19 arg crc stop s
  | .cmd20 arg crc stop => Sys2Proof.Machine.execCmd20 arg crc stop s
  | .cmd21 arg crc stop => Sys2Proof.Machine.execCmd21 arg crc stop s
  | .cmd22 arg crc stop => Sys2Proof.Machine.execCmd22 arg crc stop s
  | .cmd23 arg crc stop => Sys2Proof.Machine.execCmd23 arg crc stop s
  | .cmd24 arg crc stop => Sys2Proof.Machine.execCmd24 arg crc stop s
  | .cmd25 arg crc stop => Sys2Proof.Machine.execCmd25 arg crc stop s
  | .cmd26 arg crc stop => Sys2Proof.Machine.execCmd26 arg crc stop s
  | .cmd27 arg crc stop => Sys2Proof.Machine.execCmd27 arg crc stop s
  | .cmd28 arg crc stop => Sys2Proof.Machine.execCmd28 arg crc stop s
  | .cmd29 arg crc stop => Sys2Proof.Machine.execCmd29 arg crc stop s
  | .cmd30 arg crc stop => Sys2Proof.Machine.execCmd30 arg crc stop s
  | .cmd31 arg crc stop => Sys2Proof.Machine.execCmd31 arg crc stop s
  | .cmd32 arg crc stop => Sys2Proof.Machine.execCmd32 arg crc stop s
  | .cmd33 arg crc stop => Sys2Proof.Machine.execCmd33 arg crc stop s
  | .cmd34 arg crc stop => Sys2Proof.Machine.execCmd34 arg crc stop s
  | .cmd35 arg crc stop => Sys2Proof.Machine.execCmd35 arg crc stop s
  | .cmd36 arg crc stop => Sys2Proof.Machine.execCmd36 arg crc stop s
  | .cmd37 arg crc stop => Sys2Proof.Machine.execCmd37 arg crc stop s
  | .cmd38 arg crc stop => Sys2Proof.Machine.execCmd38 arg crc stop s
  | .cmd39 arg crc stop => Sys2Proof.Machine.execCmd39 arg crc stop s
  | .cmd40 arg crc stop => Sys2Proof.Machine.execCmd40 arg crc stop s
  | .cmd41 arg crc stop => Sys2Proof.Machine.execCmd41 arg crc stop s
  | .cmd42 arg crc stop => Sys2Proof.Machine.execCmd42 arg crc stop s
  | .cmd43 arg crc stop => Sys2Proof.Machine.execCmd43 arg crc stop s
  | .cmd44 arg crc stop => Sys2Proof.Machine.execCmd44 arg crc stop s
  | .cmd45 arg crc stop => Sys2Proof.Machine.execCmd45 arg crc stop s
  | .cmd46 arg crc stop => Sys2Proof.Machine.execCmd46 arg crc stop s
  | .cmd47 arg crc stop => Sys2Proof.Machine.execCmd47 arg crc stop s
  | .cmd48 arg crc stop => Sys2Proof.Machine.execCmd48 arg crc stop s
  | .cmd49 arg crc stop => Sys2Proof.Machine.execCmd49 arg crc stop s
  | .cmd50 arg crc stop => Sys2Proof.Machine.execCmd50 arg crc stop s
  | .cmd51 arg crc stop => Sys2Proof.Machine.execCmd51 arg crc stop s
  | .cmd52 arg crc stop => Sys2Proof.Machine.execCmd52 arg crc stop s
  | .cmd53 arg crc stop => Sys2Proof.Machine.execCmd53 arg crc stop s
  | .cmd54 arg crc stop => Sys2Proof.Machine.execCmd54 arg crc stop s
  | .cmd55 arg crc stop => Sys2Proof.Machine.execCmd55 arg crc stop s
  | .cmd56 arg crc stop => Sys2Proof.Machine.execCmd56 arg crc stop s
  | .cmd57 arg crc stop => Sys2Proof.Machine.execCmd57 arg crc stop s
  | .cmd58 arg crc stop => Sys2Proof.Machine.execCmd58 arg crc stop s
  | .cmd59 arg crc stop => Sys2Proof.Machine.execCmd59 arg crc stop s
  | .cmd60 arg crc stop => Sys2Proof.Machine.execCmd60 arg crc stop s
  | .cmd61 arg crc stop => Sys2Proof.Machine.execCmd61 arg crc stop s
  | .cmd62 arg crc stop => Sys2Proof.Machine.execCmd62 arg crc stop s
  | .cmd63 arg crc stop => Sys2Proof.Machine.execCmd63 arg crc stop s
  | .rsp idx arg crc stop => Sys2Proof.Machine.execRsp idx arg crc stop s
  | .rspLong idx hi lo stop => Sys2Proof.Machine.execRspLong idx hi lo stop s
  | .data1 d => Sys2Proof.Machine.execData1 d s
  | .data4 d => Sys2Proof.Machine.execData4 d s

end Sys2Proof.Machine
end

