-- ==== Sys2Proof/Machine/Fetch.lean ====
section
/-! DEFINITION. What the next step decodes (R59), and the loading of a table word from outside the machine: a control
word is written into `phase` and `frame_state`; a bus unit is presented, with a capture that carries it (log 9). -/

namespace Sys2Proof.Machine

open Sys2Proof

/-- The unit the next step decodes: a presented unit if there is one and the run is not over, else the control word
`phase ++ frame_state` (R56, R59; log 5). -/
def State.fetchUnit (s : State) : BusUnit :=
  if s.phase = .terminated then .control (controlWord s.phase s.frameState)
  else s.presented.getD (.control (controlWord s.phase s.frameState))

/-- The instruction the next step runs. -/
def State.fetch (s : State) : Except DecodeError Instr := decode s.context s.fetchUnit

/-- `cancel_request` is looked at, and reads 1 (R118); nothing is looked at once the run is over (R116). -/
def State.cancelled (s : State) : Bool := s.phase != .terminated && s.cancelRequest

/-- The inputs of this iteration taken, unless the run is over. -/
def State.polled (s : State) : State := if s.phase = .terminated then s else s.taken

/-! The bench of spec/95_test_vectors.md section 2: period 10, boundary edges at 100 + 10k, sampling edges at 105 + 10k,
lines changing one sample after a boundary edge, idle level 1. -/

/-- The clock's transitions over `n` cycles. -/
def benchEdges (n : Nat) : List Nat := (List.range n).flatMap (fun k => [100 + 10 * k, 105 + 10 * k])

/-- The bench clock, its sampling edges of the given polarity. -/
def benchClock (e : Edge) (n : Nat) : Line := { init := e.post, edges := benchEdges n }

/-- The transitions of a line at `level` that carries `bits` in the cells from sample `p` on and is then idle. -/
def cellEdges : Nat → Bool → List Bool → List Nat
  | p, level, [] => if level then [] else [p]
  | p, level, b :: bs => (if b = level then [] else [p]) ++ cellEdges (p + 10) b bs

/-- An idle line that carries `bits` from the bench's cycle 4 on. -/
def benchLine (bits : List Bool) : Line := { init := true, edges := cellEdges 141 true bits }

/-- The cursor of a line brought to sample `p`. -/
def Cursor.placed (l : Line) (p : Nat) : Cursor := { line := l, pos := p, level := l.levelAt p }

/-- A control word loaded: it stands in `phase` and `frame_state`; a word these cannot hold is presented. EXTRACT_BYTE
needs a data line (R85). -/
def State.loadControl (cw : BitVec 6) (s : State) : State :=
  match Phase.ofCode (controlPhase cw), FrameState.ofCode (controlFrameState cw) with
  | some p, some f =>
    { s with
      phase := p, frameState := f, presented := none, cancelRequests := []
      dat := if p = .readData ∧ s.dat = .absent then .one (.placed .idle s.clk.pos) else s.dat }
  | _, _ => { s with phase := .findCmdStart, presented := some (.control cw), cancelRequests := [] }

/-- A bus frame loaded: it is presented, on a capture whose command line carries its bits from cycle 4 on, with the FSM
at its command start and the context its row names. -/
def State.loadFrame (u : BusUnit) (bits : List Bool) (long : Bool) (s : State) : State :=
  { s with
    phase := .analyzeCommand, frameState := .startBit, presented := some u, cancelRequests := []
    nSamples := 300 + 10 * bits.length
    clk := .atStart (benchClock s.config.sampleEdge (bits.length + 8))
    cmd := .placed (benchLine bits) 141
    dat := s.dat.map (fun _ => .atStart .idle)
    cmdStartSample := 141, cmdStartValid := true
    lastHostCmd := if long then 2 else s.lastHostCmd, lastHostCmdValid := long }

/-- A byte-unit loaded: it is presented, on a capture whose data lines carry a start bit and its bits, with the
extractor at its first sampling edge; `dat` makes the lines of the unit's format. -/
def State.loadUnit (u : BusUnit) (dat : DataSet Line) (s : State) : State :=
  { s with
    phase := .readData, frameState := .startBit, presented := some u, cancelRequests := []
    nSamples := 400
    clk := .placed (benchClock s.config.sampleEdge 20) 155
    cmd := .atStart .idle
    dat := dat.map (fun l => .placed l 155)
    cmdStartValid := false, dataStartSample := 141, dataBlockStartSample := 155, byteStart := 155, unitCount := 0 }

/-- The line of a DATA4 unit that carries bits `i + 4` and `i` of it: a start bit and two cells (R50). -/
def nibbleLine (d : Byte) (i : Nat) : Line := benchLine [false, d.getLsbD (i + 4), d.getLsbD i]

/-- A unit loaded from outside the machine, so that the next step runs it. -/
def State.load (u : BusUnit) (s : State) : State :=
  match u with
  | .control cw => s.loadControl cw
  | .frame48 w => s.loadFrame u (bitsOf w) false
  | .frame136 w => s.loadFrame u (bitsOf w) true
  | .unit1 d => s.loadUnit u (.one (benchLine (false :: bitsOf d)))
  | .unit4 d => s.loadUnit u (.four (nibbleLine d 0) (nibbleLine d 1) (nibbleLine d 2) (nibbleLine d 3))

end Sys2Proof.Machine
end

