-- ==== Sys2Proof/Machine/Step.lean ====
section
/-! DEFINITION. One step: one driver iteration (R116, D26), or one presented bus unit (log 5). -/

namespace Sys2Proof.Machine

open Sys2Proof

/-- `ITERATE()` (R116): `cancel_request` is looked at first (R118, R138 (1)); then the decoded instruction runs, or a
presented unit that no row matches has the effect the spec leaves it (R60; log 8). -/
def step (s : State) : Host.Outcome State Fault Refusal :=
  if s.cancelled then .next (s.polled.terminate .cancelled)
  else
    match s.fetch with
    | .ok i => exec i s.polled
    | .error _ => s.polled.runUnmatched s.fetchUnit

/-- `s` with the instruction of a table word placed where the next step fetches it (log 8, log 9). -/
def State.withFetchWord (s : State) (nbits w : Nat) : State :=
  match tableUnit nbits w with
  | some u => s.load u
  | none => s

end Sys2Proof.Machine
end

