-- ==== Sys2Proof/Machine/Configure.lean ====
section
/-! DEFINITION. The host's start of a run (R125, R146, R147): the configuration check of R127, and the Decoder State of an
accepted configuration. -/

namespace Sys2Proof.Machine

open Sys2Proof

/-- What the host asks for before a run (R24, R127): the edge, the two flags, and the captured channel of each line, an
unbounded natural number (DESIGN CHOICE, log 26). A data line is selected exactly where it has a channel (DESIGN CHOICE,
log 27): a request selects among the four lines, and no selected line is without a channel. -/
structure HostRequest where
  sampleEdge : Edge
  suppressDataFrames : Bool
  suppressStartStopFrames : Bool
  chanClk : Nat
  chanCmd : Nat
  chanDat0 : Option Nat
  chanDat1 : Option Nat
  chanDat2 : Option Nat
  chanDat3 : Option Nat
deriving DecidableEq, Repr

/-- The captured lines the host provides (R147 (3)). -/
structure Capture where
  nSamples : Nat
  clk : Line
  cmd : Line
  dat0 : Line
  dat1 : Line
  dat2 : Line
  dat3 : Line
deriving DecidableEq, Repr

/-- The channels of DAT0 to DAT3, where selected. -/
def HostRequest.chanDat (r : HostRequest) : List (Option Nat) := [r.chanDat0, r.chanDat1, r.chanDat2, r.chanDat3]

/-- R127 (1): the data-line set is empty, DAT0 only, or DAT0 to DAT3; with the captured lines of the selection. -/
def HostRequest.lines (r : HostRequest) (c : Capture) : Option (DataSet Line) :=
  match r.chanDat.map Option.isSome with
  | [false, false, false, false] => some .absent
  | [true, false, false, false] => some (.one c.dat0)
  | [true, true, true, true] => some (.four c.dat0 c.dat1 c.dat2 c.dat3)
  | _ => none

/-- The channels of the clock, the command line and the selected data lines (R127 (2)). -/
def HostRequest.channels (r : HostRequest) : List Nat := r.chanClk :: r.chanCmd :: r.chanDat.filterMap id

/-- The check of R127, in its order; the accepted data-line set otherwise. -/
def HostRequest.checked (r : HostRequest) (c : Capture) : Except ConfigError (DataSet Line) :=
  match r.lines c with
  | none => .error .invalidDataLineCount
  | some lines => if r.channels.Nodup then .ok lines else .error .overlappingChannels

/-- The start of a run: a rejected configuration makes no Decoder State (R127); an accepted one gives the reset state
(R29, R146). -/
def configure (r : HostRequest) (c : Capture) (cancelRequests : List Bool) : Host.Outcome State Fault Refusal :=
  match r.checked c with
  | .error e => .fault (.configError e)
  | .ok lines =>
    .next (State.initial
      { sampleEdge := r.sampleEdge
        suppressDataFrames := r.suppressDataFrames
        suppressStartStopFrames := r.suppressStartStopFrames
        chanClk := r.chanClk
        chanCmd := r.chanCmd
        chanDat := r.chanDat.filterMap id }
      c.nSamples c.clk c.cmd lines cancelRequests)

end Sys2Proof.Machine
end

