-- ==== Sys2Proof/Safety.lean ====
section
/-! DEFINITION. The terms in which claims are made: the observation (R39, R160), the invariants of R28 and R44, the bus
cycles and bit steps a capture has room for, and the run of a command line that carries a frame. -/

namespace Sys2Proof.Machine

open Sys2Proof

/-! The observation. -/

/-- The frame of an `AddFrame` event. -/
def Event.frame? : Event → Option Frame
  | .addFrame f => some f
  | .commitPacket => none
  | .cancelPacket => none
  | .marker _ _ _ => none
  | .progress _ => none
  | .terminated _ => none

/-- Whether an event is a marker, which a model may drop from the observation (R39, U19). -/
def Event.isMarker : Event → Bool
  | .addFrame _ => false
  | .commitPacket => false
  | .cancelPacket => false
  | .marker _ _ _ => true
  | .progress _ => false
  | .terminated _ => false

/-- Whether an event is the last one of a run (R39). -/
def Event.isTerminated : Event → Bool
  | .addFrame _ => false
  | .commitPacket => false
  | .cancelPacket => false
  | .marker _ _ _ => false
  | .progress _ => false
  | .terminated _ => true

/-- The Decoded Frames of a list of events, in order. -/
def framesOf (es : List Event) : List Frame := es.filterMap Event.frame?

/-- The events without the markers. -/
def visible (es : List Event) : List Event := es.filter (fun e => !e.isMarker)

/-- The end of the last frame of the open packet after a list of events, if a packet is open (R22), or `none` as soon as
two consecutive frames of one packet do not abut (R44 (c)). The argument is the end of the last frame of the packet open
before the list. -/
def packetScan : Option Nat → List Event → Option (Option Nat)
  | o, [] => some o
  | none, .addFrame f :: es => packetScan (some f.last) es
  | some e, .addFrame f :: es => if f.first = e + 1 then packetScan (some f.last) es else none
  | _, .commitPacket :: es => packetScan none es
  | _, .cancelPacket :: es => packetScan none es
  | o, .marker _ _ _ :: es => packetScan o es
  | o, .progress _ :: es => packetScan o es
  | o, .terminated _ :: es => packetScan o es

/-! Invariants. -/

/-- A cursor inside a capture of `n` samples: its line is in canonical form (R31), its position is a sample of the
capture (R33), its level is the line's level there (R66). -/
def Cursor.wf (n : Nat) (c : Cursor) : Bool :=
  c.line.wf n && decide (c.pos < n) && c.level == c.line.levelAt c.pos

/-- Every cursor is inside the capture, and the capture has a legal length (R4). -/
def State.cursorsWf (s : State) : Bool :=
  decide (1 ≤ s.nSamples) && decide (s.nSamples < 2 ^ Config.POS_BITS) && s.clk.wf s.nSamples && s.cmd.wf s.nSamples
    && s.dat.toList.all (·.wf s.nSamples)

/-- R28 (b), and during a run every active data cursor stands at the clock's position (R83 (d)). -/
def State.dataAtClock (s : State) : Bool :=
  if s.phase = .terminated then s.dat.toList.all (fun d => decide (d.pos ≤ s.clk.pos))
  else s.dat.toList.all (fun d => decide (d.pos = s.clk.pos))

/-- R28 (c): the command cursor rests on the accepted falling edge. -/
def State.cmdAtStart (s : State) : Bool :=
  decide (s.cmd.pos = s.cmdStartSample) && !s.cmd.level && s.cmd.line.edges.contains s.cmd.pos

/-- What holds of the registers in each phase. -/
def State.phaseOk (s : State) : Bool :=
  match s.phase with
  | .findCmdStart => s.frameState == .startBit
  | .findDataStart => s.frameState == .startBit && (!s.cmdStartValid || s.cmdAtStart)
  | .readData =>
    s.frameState == .startBit && (!s.cmdStartValid || s.cmdAtStart) && s.dat != .absent
      && s.clk.level == s.sampleLevel && decide (s.byteStart ≤ s.clk.pos) && decide (s.unitCount.toNat < Config.BLOCK_UNITS)
  | .analyzeCommand =>
    s.cmdStartValid &&
      (match s.frameState with
       | .startBit => s.cmdAtStart
       | _ =>
         decide (s.cmd.pos = s.clk.pos) && s.clk.level == s.midLevel &&
           (match s.clk.ahead with
            | [] => false
            | e :: _ => decide (s.fieldStart ≤ e)))
  | .terminated => true

/-- R28 (d) and R149 (b): the countdown is 0 outside the multi-bit fields and between 1 and the field's length in them;
in ArgumentField `nbits` counts the rest. -/
def State.countersOk (s : State) : Bool :=
  match s.frameState with
  | .startBit => s.countdown == 0
  | .direction => s.countdown == 0
  | .stop => s.countdown == 0
  | .commandField => decide (1 ≤ s.countdown.toNat) && decide (s.countdown.toNat ≤ Config.CMD_FIELD_BITS)
  | .argumentField =>
    decide (1 ≤ s.countdown.toNat) &&
      decide (s.nbits.toNat + s.countdown.toNat = if s.respLong then Config.LONG_ARG_CYCLES else Config.ARG_BITS)
  | .crc7 => decide (1 ≤ s.countdown.toNat) && decide (s.countdown.toNat ≤ Config.CRC7_BITS)

/-- The invariant of a run's control state: a run that takes its units from the lines (nothing is presented), cursors
inside the capture, and R28 (b), (c), (d). -/
abbrev State.ControlInv (s : State) : Prop :=
  s.presented = none ∧ s.cursorsWf = true ∧ s.dataAtClock = true ∧ s.phaseOk = true ∧ s.countersOk = true
    ∧ s.unitCount.toNat ≤ Config.BLOCK_UNITS

/-- Where the next frame of the open packet begins: the byte in progress, or the field in progress. -/
def State.nextFirst (s : State) : Nat := if s.phase = .readData then s.byteStart else s.fieldStart

/-- The open packet agrees with `packet_open` (R22) and abuts the frame in progress (R44 (c)). A packet is open only while
a byte that will be emitted (R92) or a field is in progress. -/
def State.packetOk (s : State) : Bool :=
  match packetScan none s.out with
  | none => false
  | some none => !s.packetOpen
  | some (some e) =>
    s.packetOpen && e + 1 == s.nextFirst
      && (s.phase == .readData && !s.config.suppressDataFrames
        || s.phase == .analyzeCommand && s.frameState != .startBit)

/-- The clock has no edge from sample `p` to sample `q`. -/
def State.noClockEdge (s : State) (p q : Nat) : Bool := s.clk.line.edges.all (fun e => !(decide (p ≤ e) && decide (e ≤ q)))

/-- What begins at sample `p` is after the frame `f` (R44 (b)): `f` has ended. Only a command (`command`) may begin within
a Stop frame, and only in its last half-cycle, after its last clock edge, the midpoint (log 20). -/
def State.afterFrame (s : State) (command : Bool) (f : Frame) (p : Nat) : Bool :=
  decide (f.last < p) || (command && f.kind == .stop && decide (f.first < p) && s.noClockEdge p f.last)

/-- Every frame of the list is after each earlier one, of whatever packet (R44 (b); log 20). -/
abbrev State.inTimeOrder (s : State) (fs : List Frame) : Prop :=
  fs.Pairwise (fun f g => s.afterFrame (g.kind == .start) f g.first = true)

/-- What begins at sample `p` is after every frame emitted. -/
def State.afterAll (s : State) (command : Bool) (p : Nat) : Bool :=
  (framesOf s.out).all (fun f => s.afterFrame command f p)

/-- Every frame emitted has ended before the next clock edge. -/
def State.endedBeforeClock (s : State) : Bool := s.clk.ahead.all (s.afterAll false)

/-- What is still to be emitted is after what has been, in each phase: the next byte, the next field, or the next
exchange and the next data block. In `FindCmdStart` the next command start lies beyond the command cursor. -/
def State.nextInOrder (s : State) : Bool :=
  match s.phase with
  | .findCmdStart => s.endedBeforeClock && s.afterAll true (s.cmd.pos + 1)
  | .findDataStart => s.endedBeforeClock && (!s.cmdStartValid || s.afterAll true s.cmd.pos)
  | .readData => s.afterAll false s.byteStart && (!s.cmdStartValid || s.afterAll true s.cmd.pos)
  | .analyzeCommand =>
    if s.frameState = .startBit then s.endedBeforeClock && s.afterAll true s.cmd.pos else s.afterAll false s.fieldStart
  | .terminated => true

/-- A Start frame begins where the command line falls (R74, R97), and a Stop frame ends with the half-cycle that follows a
midpoint, one sample before the cycle end (R95, R104, R105). -/
def State.placedOnLines (s : State) (f : Frame) : Bool :=
  (f.kind != .start || s.cmd.line.edges.contains f.first && !s.cmd.line.levelAt f.first)
    && (f.kind != .stop || s.clk.line.levelAt f.last == s.midLevel && s.clk.line.edges.contains (f.last + 1))

/-- The frames emitted stand in time order, and where the lines put them; and what is still to come is after them. -/
def State.orderOk (s : State) : Bool :=
  decide (s.inTimeOrder (framesOf s.out)) && (framesOf s.out).all s.placedOnLines && s.nextInOrder

/-- The command line never falls inside the half-cycle that ends a bus cycle: at each of its falling edges the clock stands
in the other half-cycle, or has an edge, or has none left. So it is wherever the lines change with the boundary edges
(R151, and the bench of 95_test_vectors.md section 2). -/
def State.fallsOutsideLastHalf (s : State) : Bool :=
  s.cmd.line.edges.all (fun q =>
    s.cmd.line.levelAt q || s.clk.line.levelAt q != s.midLevel || s.clk.line.edges.contains q
      || s.clk.line.edges.all (· < q))

/-- R39: `Terminated` is the last event of a run, and there is exactly one when the run is over. -/
def State.terminationOk (s : State) : Bool :=
  if s.phase = .terminated then
    s.out.getLast?.any Event.isTerminated && s.out.dropLast.all (fun e => !e.isTerminated)
  else s.out.all (fun e => !e.isTerminated)

/-- The invariant of a run's output: every frame has `start <= end` (R44 (a)), frames stand in time order across packets
too (R44 (b); log 20), frames of one packet abut (R44 (c)), the run ends once (R39), and never by a backward seek
(R129). -/
abbrev State.OutputInv (s : State) : Prop :=
  (framesOf s.out).all (fun f => decide (f.first ≤ f.last)) = true ∧ s.orderOk = true ∧ s.packetOk = true
    ∧ s.terminationOk = true ∧ Event.terminated .outOfOrderSeek ∉ s.out

/-! Room for bus cycles and bit steps: conditions on the clock and the cursors alone, decided by walking them. -/

/-- `k` cycles from the present position of the clock: their cycle ends, and the state with the cursors after them. -/
def State.cycleWalk : Nat → State → Option (List Nat × State)
  | 0, s => some ([], s)
  | k + 1, s =>
    match s.cycle with
    | .signal _ _ => none
    | .ok c t => (State.cycleWalk k t).map (fun r => (c.cycleEnd :: r.1, r.2))

/-- An exchange of `k + 1` cycles, the first one the StartBit cycle (R96). -/
def State.exchangeWalk (k : Nat) (s : State) : Option (List Nat × State) :=
  match s.startCycle with
  | .signal _ _ => none
  | .ok c t => (State.cycleWalk k t).map (fun r => (c.cycleEnd :: r.1, r.2))

/-- `k` per-bit steps of the extractor (R88): the sample positions read, the boundary edges, and the state with the
cursors after them. -/
def State.bitWalk : Nat → State → Option (List Nat × List Nat × State)
  | 0, s => some ([], [], s)
  | k + 1, s =>
    match s.bitStep none with
    | .signal _ _ => none
    | .ok boundary t => (State.bitWalk k t).map (fun r => (s.clk.pos :: r.1, boundary :: r.2.1, r.2.2))

/-- No cancel request at the next `k` iterations. -/
def State.notCancelled (k : Nat) (s : State) : Bool := (s.cancelRequests.take k).all (fun c => !c)

/-- The bit the FSM would sample in its next cycle (R95, R96). -/
def State.nextBit (s : State) : Option Bool :=
  match s.fsmCycle s.frameState with
  | .ok c _ => some c.bit
  | .signal _ _ => none

/-- The command line carries `bits` from here on: each iteration of the FSM would sample the next of them, as long as the
run goes on in `AnalyzeCommand`. -/
def State.carries : List Bool → State → Bool
  | [], _ => true
  | b :: bs, s =>
    if s.phase = .analyzeCommand then
      (s.nextBit == some b || s.nextBit == none) &&
        (match step s with
         | .next t => State.carries bs t
         | .fault _ => false
         | .refused _ => false)
    else true

/-! Positions on the lines: conditions on a capture, in terms of R31 alone. -/

/-- `q` is the first transition of the line strictly after `p` (R70). -/
def Line.nextAfter (l : Line) (p q : Nat) : Bool := (l.edges.filter (p < ·)).head? == some q

/-- The line falls at `f` and next rises at `e`: a low pulse of width `e - f` (R74). -/
def Line.pulse (l : Line) (f e : Nat) : Bool := l.edges.contains f && !l.levelAt f && l.nextAfter f e

/-- The first falling edge of any active data line after the clock's position is at `p`. -/
def State.firstDataFall (s : State) (p : Nat) : Bool :=
  decide (s.clk.pos < p) && s.dat.toList.any (fun d => d.line.edges.contains p && !d.line.levelAt p)
    && s.dat.toList.all (fun d => d.line.edges.all (fun q => !(decide (s.clk.pos < q) && decide (q < p)) || d.line.levelAt q))

/-- No active data line falls after the clock's position, up to the command start if there is one (R83). -/
def State.noDataFall (s : State) : Bool :=
  s.dat.toList.all (fun d => d.line.edges.all (fun q =>
    !(decide (s.clk.pos < q) && (!s.cmdStartValid || decide (q ≤ s.cmdStartSample))) || d.line.levelAt q))

/-- The last transition of an active data line that the arbiter passes over when it finds no data start: the last one after
the clock's position, and before the command start if there is one (R80, R84); the clock's position if there is none. -/
def State.lastPassed (s : State) : Nat :=
  (s.dat.toList.flatMap (fun d => d.line.edges.filter (fun q =>
    decide (s.clk.pos < q) && (!s.cmdStartValid || decide (q < s.cmdStartSample))))).foldl max s.clk.pos

/-- Every active data cursor stands at the clock's position (R28 (b), R83 (d)). -/
def State.dataAligned (s : State) : Bool := s.dat.toList.all (fun d => decide (d.pos = s.clk.pos))

/-- The clock reaches `c` from `p` by the alignment of R82: two edges, and a third if the second is not a sampling edge. -/
def State.alignedAt (s : State) (p c : Nat) : Bool :=
  match s.clk.line.edges.filter (p < ·) with
  | _ :: e2 :: rest => if s.clk.line.levelAt e2 = s.sampleLevel then c == e2 else rest.head? == some c
  | [_] => false
  | [] => false

/-- The clock has too few edges after `p` for the alignment of R82. -/
def State.unalignable (s : State) (p : Nat) : Bool :=
  match s.clk.line.edges.filter (p < ·) with
  | _ :: e2 :: rest => rest.isEmpty && s.clk.line.levelAt e2 != s.sampleLevel
  | [_] => true
  | [] => true

/-- The last transition of a line; 0 if it has none. -/
def Line.lastEdge (l : Line) : Nat := l.edges.getLast?.getD 0

/-- The three cursors at sample `m`, each with its line's level there. -/
def State.movedTo (m : Nat) (s : State) : State :=
  { s with clk := .placed s.clk.line m, cmd := .placed s.cmd.line m, dat := s.dat.map (fun d => .placed d.line m) }

/-- The command and data cursors are not beyond `m`, and `e` is the clock edge that follows `m`. -/
def State.cellAt (s : State) (m e : Nat) : Bool :=
  s.cursorsWf && decide (s.cmd.pos ≤ m) && s.dat.toList.all (fun d => decide (d.pos ≤ m)) && s.clk.line.nextAfter m e

/-- A bus cycle from the clock's position has its midpoint at `m` and its end at `e` (R95). -/
def State.cycleAt (s : State) (m e : Nat) : Bool :=
  s.cellAt m e &&
    (match (if s.clk.level = s.midLevel then s.clk.ahead.head? else some s.clk.pos) with
     | none => false
     | some b => s.clk.line.nextAfter b m)

/-- The first bus cycle of an exchange has its midpoint at `m` and its end at `e` (R96). -/
def State.startCycleAt (s : State) (m e : Nat) : Bool :=
  if s.clk.pos < s.cmdStartSample then
    s.cursorsWf && decide (s.cmdStartSample < s.nSamples)
      && ({ s with clk := .placed s.clk.line s.cmdStartSample } : State).cycleAt m e
  else if s.clk.level = s.midLevel then s.cellAt m e && m == s.clk.pos
  else s.cycleAt m e

/-- The levels of the active data lines at sample `p`, most significant first (R35, R86, R87). -/
def State.groupAt (s : State) (p : Nat) : List Bool :=
  match s.dat with
  | .absent => []
  | .one d0 => [d0.line.levelAt p]
  | .four d0 d1 d2 d3 => [d3.line.levelAt p, d2.line.levelAt p, d1.line.levelAt p, d0.line.levelAt p]

/-- The byte whose bits, most significant first, are the levels read at the samples `ps` (R86, R87). -/
def State.reads (s : State) (ps : List Nat) (b : Byte) : Bool := bitsOf b == ps.flatMap s.groupAt

/-- What the accumulator holds of a byte of which the samples `ps` have been read, most significant bit first (R51). -/
def State.partialByte (s : State) (ps : List Nat) : Byte := (ps.flatMap s.groupAt).foldl shl1 0

/-- The clock cycles of one byte-unit (R86, R87): none without a data line. -/
def State.unitCycles (s : State) : Nat :=
  match s.dat with
  | .absent => 0
  | .one _ => 8
  | .four _ _ _ _ => 2

/-- With the clock where `u` has it, the interruption test of R89 finds nothing due. -/
def State.notDue (s u : State) : Bool :=
  !s.cmdStartValid ||
    (match u.clk.peek with
     | .ok q => decide (q < s.cmdStartSample)
     | .error _ => false)

/-- With the clock where `u` has it, the interruption test of R89 finds the command line starting a frame: the next clock
edge is at or after the command start, and the command line is low. -/
def State.due (s u : State) : Bool :=
  s.cmdStartValid && !s.cmd.level &&
    (match u.clk.peek with
     | .ok q => decide (s.cmdStartSample ≤ q)
     | .error _ => false)

/-- The data lines carry the unit `d` from here on: whichever of its bits the extractor comes to sample are the unit's. -/
def State.carriesUnit (d : Byte) (s : State) : Bool :=
  (List.range s.unitCycles).all (fun k =>
    match State.bitWalk k s with
    | none => true
    | some (_, _, t) =>
      (match t.dat with
       | .absent => false
       | .one d0 => d0.level == unitBit d (BitVec.ofNat 4 k)
       | .four d0 d1 d2 d3 =>
         nibbleOf d0.level d1.level d2.level d3.level == unitNibble d (BitVec.ofNat 4 (4 * k))))

/-! What the units emit. -/

/-- The `AddFrame` of a frame that a suppression flag may leave out. -/
def shown (suppressed : Bool) (f : Frame) : List Event := if suppressed then [] else [.addFrame f]

/-- A frame that runs from `first` to one sample before `cycleEnd`. -/
def Frame.upTo (kind : FrameKind) (first cycleEnd : Nat) (data1 data2 : Word64) (flags : Byte) : Frame :=
  { kind := kind, first := first, last := cycleEnd - 1, data1 := data1, data2 := data2, flags := flags }

/-- The packet operation of a packet that closes, or none if no packet is open (R113). -/
def committed (isOpen : Bool) : List Event := if isOpen then [.commitPacket] else []

/-- The events of TERMINATE (R121). -/
def terminationEvents (isOpen : Bool) (r : Reason) : List Event :=
  (if isOpen then [.cancelPacket] else []) ++ [.terminated r]

/-- The visible events of a 48-cycle exchange with the cycle ends `ends` (R122 (a)). -/
def State.exchange48 (s : State) (ends : List Nat) (dir : Bool) (kind : FrameKind) (idx : BitVec 6)
    (arg : BitVec 32) (crc : BitVec 7) (flags : Byte) : List Event :=
  let e := fun k => ends.getD k 0
  shown s.config.suppressStartStopFrames (.upTo .start s.cmdStartSample (e 0) 0 0 0)
    ++ [.addFrame (.upTo .direction (e 0) (e 1) (if dir then 1 else 0) 0 0),
        .addFrame (.upTo kind (e 1) (e 7) (idx.setWidth 64) 0 flags),
        .addFrame (.upTo .argument (e 7) (e 39) (arg.setWidth 64) 0 0),
        .addFrame (.upTo .crc7 (e 39) (e 46) (crc.setWidth 64) 0 0)]
    ++ shown s.config.suppressStartStopFrames (.upTo .stop (e 46) (e 47) 0 0 0) ++ [.commitPacket]

/-- The visible events of a 136-cycle exchange with the cycle ends `ends` (R102, R122 (a)). -/
def State.exchange136 (s : State) (ends : List Nat) (idx : BitVec 6) (hi : BitVec 64) (lo : BitVec 63)
    (flags : Byte) : List Event :=
  let e := fun k => ends.getD k 0
  shown s.config.suppressStartStopFrames (.upTo .start s.cmdStartSample (e 0) 0 0 0)
    ++ [.addFrame (.upTo .direction (e 0) (e 1) 0 0 0),
        .addFrame (.upTo .response (e 1) (e 7) (idx.setWidth 64) 0 flags),
        .addFrame (.upTo .longArgument (e 7) (e 134) hi (lo ++ 0#1) 0)]
    ++ shown s.config.suppressStartStopFrames (.upTo .stop (e 134) (e 135) 0 0 0) ++ [.commitPacket]

/-- R55: the flag/context byte of a Response. -/
def State.responseFlags (s : State) : Byte := if s.lastHostCmdValid then s.lastHostCmd.setWidth 8 else 0xFF

/-- The control row of a frame sub-state (R59 (a)). -/
def fsmRow : FrameState → Instr
  | .startBit => .fsmStartBit
  | .direction => .fsmDirection
  | .commandField => .fsmCommandField
  | .argumentField => .fsmArgumentField
  | .crc7 => .fsmCrc7
  | .stop => .fsmStop

end Sys2Proof.Machine
end

