-- ==== Sys2Proof/Certificates/Slice0/Obligations.lean ====
section
/-! DEFINITION. The statements for the provers, in the order of OBLIGATIONS.json. Each docstring says what of spec/ the
statement formalises, or which log entry it rests on. -/

section

open Sys2Proof Sys2Proof.Machine

/-- Written-out units of every family decode to their rows. Derived from spec/ 30_encoding.md sections 1, 3 and 4. -/
def Obligations.UnitsDecodeToTheirRows : Prop :=
  decode ⟨0, false, 0⟩ (.control 0b000101) = .ok (.locate 5) ∧
  decode ⟨0, false, 0⟩ (.control 0b001000) = .ok (.arbitrate 0) ∧
  decode ⟨0, false, 1⟩ (.control 0b010000) = .ok (.extractByte 0) ∧
  decode ⟨0, false, 0⟩ (.control 0b011100) = .ok .fsmCrc7 ∧
  decode ⟨0, false, 0⟩ (.control 0b100000) = .ok (.halt 0) ∧
  decode ⟨0, false, 0⟩ (.frame48 0x510000100027) = .ok (.cmd17 0x1000 0x13 1) ∧
  decode ⟨55, true, 0⟩ (.frame48 0x6940300000AB) = .ok (.acmd41 0x40300000 0x55 1) ∧
  decode ⟨55, true, 0⟩ (.frame48 0x770000000065) = .ok (.cmd55 0 0x32 1) ∧
  decode ⟨17, true, 0⟩ (.frame48 0x110000090067) = .ok (.rsp 17 0x900 0x33 1) ∧
  decode ⟨2, true, 0⟩ (.frame136 0x3F0123456789ABCDEFFEDCBA987654324F) =
    .ok (.rspLong 63 0x0123456789ABCDEF 0x7F6E5D4C3B2A1927 1) ∧
  decode ⟨0, false, 1⟩ (.unit1 0xA5) = .ok (.data1 0xA5) ∧
  decode ⟨0, false, 4⟩ (.unit4 0x3C) = .ok (.data4 0x3C)

/-- A control word phase ++ frame_state decodes to the row of its phase. Derived from spec/ 30_encoding.md section 4
(the decode map); 30_encoding.md section 3. -/
def Obligations.ControlWordSelectsByPhase : Prop :=
  ∀ (p : Phase) (f : FrameState),
    decodeControl (controlWord p f) = .ok
      (match p with
       | .findCmdStart => .locate f.code
       | .findDataStart => .arbitrate f.code
       | .readData => .extractByte f.code
       | .analyzeCommand => fsmRow f
       | .terminated => .halt f.code)

/-- The control decoder refuses the reserved phases and 011 11s, and only them (log 7). Derived from spec/
30_encoding.md section 4 (the decode map). The model's choices in it: log 7. -/
def Obligations.ReservedControlWordsAreRefused : Prop :=
  ∀ cw : BitVec 6,
    (decodeControl cw = .error .reservedPhase ↔ 40 ≤ cw.toNat) ∧
    (decodeControl cw = .error .reservedFrameState ↔ cw.toNat = 30 ∨ cw.toNat = 31) ∧
    ((∃ i, decodeControl cw = .ok i) ↔ cw.toNat < 30 ∨ 32 ≤ cw.toNat ∧ cw.toNat < 40)

/-- Decoding what an instruction encodes to gives the instruction back. Derived from spec/ 30_encoding.md sections 1,
3 and 4. -/
def Obligations.DecodeOfEncode : Prop :=
  ∀ (i : Instr) (ctx : BusContext), i.wf = true → i.contextHolds ctx = true → decode ctx (encode i) = .ok i

/-- Whatever decodes is the encoding of what it decodes to, in its context. Derived from spec/ 30_encoding.md sections
1, 3 and 4. -/
def Obligations.EncodeOfDecode : Prop :=
  ∀ (ctx : BusContext) (u : BusUnit) (i : Instr),
    decode ctx u = .ok i → encode i = u ∧ i.contextHolds ctx = true

/-- A step runs the instruction decoded from the control state, or from the presented unit. Derived from spec/
45_decode_driver.md section 2 (ITERATE); 30_encoding.md section 4 (the decode map). The model's choices in it: log 5,
8. -/
def Obligations.StepRunsTheDecodedInstruction : Prop :=
  ∀ (s : State) (i : Instr), s.cancelled = false → i.wf = true →
    decode s.context
      (if s.phase = .terminated then .control (controlWord s.phase s.frameState)
       else s.presented.getD (.control (controlWord s.phase s.frameState))) = .ok i →
    step s = exec i
      (if s.phase = .terminated then s else { s with cancelRequests := s.cancelRequests.tail, presented := none })

/-- A cancel request at the top of an iteration ends the run, and the iteration does nothing else. Derived from spec/
45_decode_driver.md section 2 (cancellation, TERMINATE); 60_exceptions.md sections 2 to 4. The model's choices in it:
log 2, 5. -/
def Obligations.CancelRequestEndsTheRun : Prop :=
  ∀ s : State, s.phase ≠ .terminated → s.cancelRequests.headD false = true →
    step s = .next { s with
      phase := .terminated, packetOpen := false, cancelRequests := s.cancelRequests.tail, presented := none
      out := s.out ++ terminationEvents s.packetOpen .cancelled }

/-- HALT changes nothing, and once the run is over every step is a HALT. Derived from spec/ 30_encoding.md section 4;
45_decode_driver.md section 2. The model's choices in it: log 6. -/
def Obligations.HaltIsANoOperation : Prop :=
  (∀ (sss : BitVec 3) (s : State), exec (.halt sss) s = .next s) ∧
  (∀ s : State, s.phase = .terminated → step s = .next s)

/-- A presented unit that no row matches: HALT, a soft reset, or a unit of no format; no step is refused. Derived from
spec/ 30_encoding.md section 4; 44_frame_state_machine.md section 2; 60_exceptions.md section 2;
93_implementation_defined.md section 1. The model's choices in it: log 5, 8, 12. -/
def Obligations.UnmatchedUnits : Prop :=
  (∀ (s : State) (u : BusUnit), s.cancelled = false → s.phase ≠ .terminated → s.presented = some u →
    (∀ cw e, u = .control cw → decodeControl cw = .error e →
      step s = .next { s with cancelRequests := s.cancelRequests.tail, presented := none }) ∧
    (∀ m e, ((∃ w, u = .frame48 w ∧ start48 w = 1) ∨ ∃ w, u = .frame136 w ∧ start136 w = 1) →
      s.startCycleAt m e = true →
      step s = .next { s.movedTo m with
        phase := .findCmdStart, frameState := .startBit, cancelRequests := s.cancelRequests.tail, presented := none
        out := s.out ++ [.marker m .sampleEdge .clk, .progress m] }) ∧
    (∀ d, u = .unit1 d ∧ s.nDat ≠ 1 ∨ u = .unit4 d ∧ s.nDat ≠ 4 → step s = .fault .dataFormatNotSelected)) ∧
  ∀ (s : State) (r : Refusal), step s ≠ .refused r

/-- The level of a line changes exactly at its transitions. Derived from spec/ 20_memory.md section 1. -/
def Obligations.LineLevelTogglesAtTransitions : Prop :=
  ∀ (n : Nat) (l : Line), l.wf n = true →
    l.levelAt 0 = l.init ∧
    ∀ p, l.levelAt (p + 1) = if p + 1 ∈ l.edges then !l.levelAt p else l.levelAt p

/-- The level of a cursor is the level of its line at its position, at reset and after every operation. Formalises
R66. -/
def Obligations.CursorLevelIsTheLineLevel : Prop :=
  ∀ (n : Nat) (l : Line), l.wf n = true →
    (Cursor.atStart l).level = l.levelAt 0 ∧
    (∀ c : Cursor, c.line = l → c.ahead = l.edges.drop (l.edges.filter (· ≤ c.pos)).length) ∧
    ∀ c d : Cursor, c.line = l →
      c.level = xor l.init ((l.edges.filter (· ≤ c.pos)).length % 2 == 1) →
      (c.nextEdge = .ok d ∨ ∃ p, c.toAbs n p = .ok d) →
      d.line = l ∧ d.level = l.levelAt d.pos ∧
        d.level = xor l.init ((l.edges.filter (· ≤ d.pos)).length % 2 == 1)

/-- The cursor operations go to the next transition, or forward to a position, or signal in the order of their checks.
Derived from spec/ 40_edge_cursor.md sections 2, 3 and 5. -/
def Obligations.CursorOperations : Prop :=
  ∀ (n : Nat) (c : Cursor), c.wf n = true →
    (∀ q, c.line.nextAfter c.pos q = true →
      c.nextEdge = .ok (.placed c.line q) ∧ c.peek = .ok q ∧ c.hasMore = true ∧
        ∀ p, c.wouldCross p = decide (q ≤ p)) ∧
    ((∀ q ∈ c.line.edges, q ≤ c.pos) →
      c.nextEdge = .error .endOfStream ∧ c.peek = .error .endOfStream ∧ c.hasMore = false ∧
        ∀ p, c.wouldCross p = false) ∧
    (∀ p,
      (p < c.pos → c.toAbs n p = .error .outOfOrderSeek) ∧
      (c.pos ≤ p → n ≤ p → c.toAbs n p = .error .endOfStream) ∧
      (c.pos ≤ p → p < n → c.toAbs n p = .ok (.placed c.line p))) ∧
    c.toAbs n c.pos = .ok c

/-- LOCATE accepts the first low pulse wider than one sample and passes over the narrow ones. Derived from spec/
41_start_bit_locator.md section 1. -/
def Obligations.LocateAcceptsTheFirstWidePulse : Prop :=
  ∀ (sss : BitVec 3) (s : State) (f e : Nat), s.cmd.wf s.nSamples = true → s.cmd.pos < f →
    s.cmd.line.pulse f e = true → 1 < e - f →
    (∀ g h, s.cmd.pos < g → g < f → s.cmd.line.pulse g h = true → h - g ≤ 1) →
    exec (.locate sss) s = .next { s with
      phase := .findDataStart, cmd := .placed s.cmd.line f, cmdStartSample := f, cmdStartValid := true }

/-- LOCATE answers NoCommandActivity when every low pulse ahead is noise. Derived from spec/ 41_start_bit_locator.md
section 1. -/
def Obligations.LocateFindsNoCommandActivity : Prop :=
  ∀ (sss : BitVec 3) (s : State), s.cmd.wf s.nSamples = true →
    (∀ g ∈ s.cmd.line.edges, s.cmd.pos < g → s.cmd.line.levelAt g = false →
      ∃ h, s.cmd.line.nextAfter g h = true ∧ h - g ≤ 1) →
    exec (.locate sss) s = .next { s with
      phase := .findDataStart, cmdStartValid := false
      cmd := (match s.cmd.ahead.getLast? with
              | none => s.cmd
              | some p => .placed s.cmd.line p) }

/-- LOCATE signals EndOfStream when the last transition of the command line is a falling edge. Derived from spec/
41_start_bit_locator.md section 1; 45_decode_driver.md section 2 (TERMINATE); 60_exceptions.md section 2. -/
def Obligations.LocateEndsTheRunInsideALowPulse : Prop :=
  ∀ (sss : BitVec 3) (s : State) (f : Nat), s.cmd.wf s.nSamples = true → s.cmd.pos < f →
    f ∈ s.cmd.line.edges → s.cmd.line.levelAt f = false → (∀ q ∈ s.cmd.line.edges, q ≤ f) →
    (∀ g h, s.cmd.pos < g → g < f → s.cmd.line.pulse g h = true → h - g ≤ 1) →
    exec (.locate sss) s = .next { s with
      phase := .terminated, packetOpen := false, cmd := .placed s.cmd.line f
      out := s.out ++ terminationEvents s.packetOpen .endOfStream }

/-- Among the data lines at the earliest edge, one at level 1 declares a data start, whatever the others read.
Formalises R81. -/
def Obligations.ArbitrationTieBreak : Prop :=
  (∀ (s : State) (p : Nat), (p, true) ∈ s.candidates → (∀ x ∈ s.candidates, p ≤ x.1) →
    s.arbitrate = .ok .dataPresent { s with dataStartSample := p }) ∧
  (∀ (c : Nat × Bool) (cs : List (Nat × Bool)) (mn : Nat), mn = earliest c cs →
    (declaresStart mn (c :: cs) = true ↔ (mn, true) ∈ c :: cs) ∧ (∀ x ∈ c :: cs, mn ≤ x.1) ∧
      ∃ x ∈ c :: cs, x.1 = mn)

/-- ARBITRATE starts reading data at the earliest falling data edge up to the command start. Derived from spec/
42_data_presence_arbiter.md sections 2 and 3; 45_decode_driver.md section 2 (the fall-through). -/
def Obligations.ArbitrateStartsTheEarliestDataTransfer : Prop :=
  ∀ (sss : BitVec 3) (s : State) (p c : Nat), s.cursorsWf = true → s.dataAligned = true →
    s.firstDataFall p = true → (s.cmdStartValid = true → p ≤ s.cmdStartSample) → s.alignedAt p c = true →
    ∃ t, exec (.arbitrate sss) s = .next t ∧
      exec (.extractByte sss) { s with
        phase := .readData, clk := .placed s.clk.line c, dat := s.dat.map (fun d => .placed d.line c)
        dataStartSample := p, dataBlockStartSample := c, byteStart := c, unitCount := 0 } = .next t

/-- ARBITRATE without a falling data edge runs the StartBit cycle, or ends the run. Derived from spec/
42_data_presence_arbiter.md section 2; 45_decode_driver.md section 2 (the fall-through). -/
def Obligations.ArbitrateWithoutDataGoesToTheCommand : Prop :=
  ∀ (sss : BitVec 3) (s : State), s.cursorsWf = true → s.dataAligned = true → s.noDataFall = true →
    ∃ c t, c = s.lastPassed ∧ s.clk.pos ≤ c ∧ (s.cmdStartValid = true → c ≤ max s.clk.pos s.cmdStartSample) ∧
      exec (.arbitrate sss) s = .next t ∧
      if s.cmdStartValid = true then
        exec (fsmRow s.frameState) { s with
          phase := .analyzeCommand, clk := .placed s.clk.line c, dat := s.dat.map (fun d => .placed d.line c) } = .next t
      else t = { s with
        phase := .terminated, packetOpen := false
        clk := .placed s.clk.line c, dat := s.dat.map (fun d => .placed d.line c)
        out := s.out ++ terminationEvents s.packetOpen .exhausted }

/-- A bus cycle samples the command line at the next sampling edge and ends at the edge after it. Derived from spec/
44_frame_state_machine.md section 1. -/
def Obligations.BusCycle : Prop :=
  ∀ (s : State) (m e : Nat), s.cycleAt m e = true →
    s.cycle = .ok { mid := m, cycleEnd := e, bit := s.cmd.line.levelAt m }
      { s.movedTo m with out := s.out ++ [.marker m .sampleEdge .clk] }

/-- The first cycle of an exchange starts at the command start, in place, or as any other cycle. Derived from spec/
44_frame_state_machine.md section 1. -/
def Obligations.StartBitCycle : Prop :=
  ∀ (s : State) (m e : Nat), s.startCycleAt m e = true →
    s.startCycle = .ok { mid := m, cycleEnd := e, bit := s.cmd.line.levelAt m }
      { s.movedTo m with out := s.out ++ [.marker m .sampleEdge .clk] }

/-- FSM.StartBit with the command line low confirms the start and goes to Direction. Derived from spec/
44_frame_state_machine.md section 2; 45_decode_driver.md sections 1 and 2. -/
def Obligations.StartBitConfirmed : Prop :=
  ∀ (s : State) (m e : Nat), s.startCycleAt m e = true → s.cmd.line.levelAt m = false →
    exec .fsmStartBit s = .next { s.movedTo m with
      phase := .analyzeCommand, frameState := .direction, fieldStart := e
      packetOpen := s.packetOpen || !s.config.suppressStartStopFrames
      out := s.out ++ [.marker m .sampleEdge .clk, .marker s.cmdStartSample .startMark .cmd]
        ++ shown s.config.suppressStartStopFrames (.upTo .start s.cmdStartSample e 0 0 0) }

/-- FSM.StartBit with the command line high goes back to the start-bit search. Derived from spec/
44_frame_state_machine.md section 2; 45_decode_driver.md section 2 (ITERATE); 60_exceptions.md section 2. -/
def Obligations.StartBitSoftReset : Prop :=
  ∀ (s : State) (m e : Nat), s.startCycleAt m e = true → s.cmd.line.levelAt m = true →
    exec .fsmStartBit s = .next { s.movedTo m with
      phase := .findCmdStart, out := s.out ++ [.marker m .sampleEdge .clk, .progress m] }

/-- FSM.Direction stores and emits the direction bit and starts CommandField. Formalises R98. -/
def Obligations.DirectionField : Prop :=
  ∀ (s : State) (m e : Nat), s.cycleAt m e = true →
    exec .fsmDirection s = .next { s.movedTo m with
      phase := .analyzeCommand, frameState := .commandField, dir := s.cmd.line.levelAt m
      fieldStart := e, countdown := 6, acc := 0, packetOpen := true
      out := s.out ++ [.marker m .sampleEdge .clk,
        .addFrame (.upTo .direction s.fieldStart e (if s.cmd.line.levelAt m then 1 else 0) 0 0)] }

/-- FSM.CommandField shifts one bit in and goes on while the countdown runs. Derived from spec/
44_frame_state_machine.md section 2. -/
def Obligations.CommandFieldAccumulates : Prop :=
  ∀ (s : State) (m e : Nat), s.cycleAt m e = true → s.countdown ≠ 1 →
    exec .fsmCommandField s = .next { s.movedTo m with
      phase := .analyzeCommand, acc := shl1 s.acc (s.cmd.line.levelAt m), countdown := s.countdown - 1
      out := s.out ++ [.marker m .sampleEdge .clk] }

/-- A host command field is classified Command or AppCommand and remembered. Derived from spec/
44_frame_state_machine.md section 2. -/
def Obligations.HostCommandFieldCompletes : Prop :=
  ∀ (s : State) (m e : Nat) (v : BitVec 6), s.cycleAt m e = true → s.countdown = 1 → s.dir = true →
    v = (shl1 s.acc (s.cmd.line.levelAt m)).setWidth 6 →
    exec .fsmCommandField s = .next { s.movedTo m with
      phase := .analyzeCommand, frameState := .argumentField, lastHostCmd := v, lastHostCmdValid := true
      respLong := false, fieldStart := e, countdown := 32, acc := 0, hi := 0, nbits := 0, packetOpen := true
      out := s.out ++ [.marker m .sampleEdge .clk,
        .addFrame (.upTo
          (if s.lastHostCmdValid = true ∧ s.lastHostCmd = 55 ∧
              (v.toNat ∈ [6, 13, 17, 18, 19, 20, 21, 22, 23, 24, 25, 38, 39, 40, 41, 42, 43, 44, 45, 46, 47, 48, 49, 51])
           then .appCommand else .command)
          s.fieldStart e (v.setWidth 64) 0 0)] }

/-- A response field is classified Response, long after host commands 2, 9 and 10. Derived from spec/
44_frame_state_machine.md section 2; 30_encoding.md section 2. -/
def Obligations.ResponseFieldCompletes : Prop :=
  ∀ (s : State) (m e : Nat) (v : BitVec 6) (long : Bool), s.cycleAt m e = true → s.countdown = 1 → s.dir = false →
    v = (shl1 s.acc (s.cmd.line.levelAt m)).setWidth 6 →
    long = (s.lastHostCmdValid && (s.lastHostCmd == 2 || s.lastHostCmd == 9 || s.lastHostCmd == 10)) →
    exec .fsmCommandField s = .next { s.movedTo m with
      phase := .analyzeCommand, frameState := .argumentField, respLong := long
      fieldStart := e, countdown := if long then 127 else 32, acc := 0, hi := 0, nbits := 0, packetOpen := true
      out := s.out ++ [.marker m .sampleEdge .clk,
        .addFrame (.upTo .response s.fieldStart e (v.setWidth 64) 0 s.responseFlags)] }

/-- FSM.ArgumentField, normal case: 32 bits accumulate into one Argument frame, then CRC7. Formalises R101. -/
def Obligations.ArgumentField : Prop :=
  ∀ (s : State) (m e : Nat) (a : Word64), s.cycleAt m e = true → s.respLong = false →
    a = shl1 s.acc (s.cmd.line.levelAt m) →
    exec .fsmArgumentField s = .next (
      if s.countdown = 1 then
        { s.movedTo m with
          phase := .analyzeCommand, frameState := .crc7, acc := 0, nbits := s.nbits + 1, countdown := 7
          fieldStart := e, packetOpen := true
          out := s.out ++ [.marker m .sampleEdge .clk,
            .addFrame (.upTo .argument s.fieldStart e ((a.setWidth 32).setWidth 64) 0 0)] }
      else
        { s.movedTo m with
          phase := .analyzeCommand, acc := a, nbits := s.nbits + 1, countdown := s.countdown - 1
          out := s.out ++ [.marker m .sampleEdge .clk] })

/-- FSM.ArgumentField, long case: the first 64 bits are saved, the last 63 get a low 0, then Stop. Derived from spec/
44_frame_state_machine.md section 2. -/
def Obligations.LongArgumentField : Prop :=
  ∀ (s : State) (m e : Nat) (a h : Word64), s.cycleAt m e = true → s.respLong = true →
    h = (if s.nbits = 63 then shl1 s.acc (s.cmd.line.levelAt m) else s.hi) →
    a = (if s.nbits = 63 then 0 else shl1 s.acc (s.cmd.line.levelAt m)) →
    exec .fsmArgumentField s = .next (
      if s.countdown = 1 then
        { s.movedTo m with
          phase := .analyzeCommand, frameState := .stop, acc := shl1 a false, hi := h, nbits := s.nbits + 1
          countdown := 0, fieldStart := e, packetOpen := true
          out := s.out ++ [.marker m .sampleEdge .clk,
            .addFrame (.upTo .longArgument s.fieldStart e h (shl1 a false) 0)] }
      else
        { s.movedTo m with
          phase := .analyzeCommand, acc := a, hi := h, nbits := s.nbits + 1, countdown := s.countdown - 1
          out := s.out ++ [.marker m .sampleEdge .clk] })

/-- FSM.CRC7: 7 bits accumulate into one CRC7 frame, then Stop. Formalises R103. -/
def Obligations.Crc7Field : Prop :=
  ∀ (s : State) (m e : Nat) (a : Word64), s.cycleAt m e = true → a = shl1 s.acc (s.cmd.line.levelAt m) →
    exec .fsmCrc7 s = .next (
      if s.countdown = 1 then
        { s.movedTo m with
          phase := .analyzeCommand, frameState := .stop, acc := a, countdown := 0, fieldStart := e, packetOpen := true
          out := s.out ++ [.marker m .sampleEdge .clk,
            .addFrame (.upTo .crc7 s.fieldStart e ((a.setWidth 7).setWidth 64) 0 0)] }
      else
        { s.movedTo m with
          phase := .analyzeCommand, acc := a, countdown := s.countdown - 1
          out := s.out ++ [.marker m .sampleEdge .clk] })

/-- FSM.Stop closes the packet, resets to StartBit and ends the exchange, whatever the bit. Formalises R104. -/
def Obligations.StopField : Prop :=
  ∀ (s : State) (m e : Nat), s.cycleAt m e = true →
    exec .fsmStop s = .next { s.movedTo m with
      phase := .findCmdStart, frameState := .startBit, fieldStart := e, packetOpen := false
      out := s.out ++ [.marker m .sampleEdge .clk, .marker m .stopMark .cmd]
        ++ shown s.config.suppressStartStopFrames (.upTo .stop s.fieldStart e 0 0 0)
        ++ committed (s.packetOpen || !s.config.suppressStartStopFrames) ++ [.progress m] }

/-- A signal in the bus cycle of an FSM row ends the run before any register is written. Derived from spec/
44_frame_state_machine.md section 4; 45_decode_driver.md section 2 (TERMINATE); 60_exceptions.md section 2. -/
def Obligations.FsmSignalEndsTheRun : Prop :=
  ∀ (f : FrameState) (s u : State) (x : Signal), s.fsmCycle f = .signal x u →
    exec (fsmRow f) s = .next { s with
      clk := u.clk, cmd := u.cmd, dat := u.dat, phase := .terminated, packetOpen := false
      out := s.out ++ terminationEvents s.packetOpen x.reason }

/-- With one data line, eight per-bit steps leave in dacc the eight sampled levels, first in time highest. Formalises
R86. -/
def Obligations.OneLineByteIsMsbFirst : Prop :=
  ∀ (s : State) (d0 : Cursor), s.dat = .one d0 →
    s.packGroup none = { s with dacc := shl1 s.dacc d0.level, dnb := s.dnb + 1 } ∧
    ∀ (u : State) (ps bs : List Nat), s.cursorsWf = true → s.dataAligned = true →
      State.bitWalk 8 s = some (ps, bs, u) →
      u.dnb = s.dnb + 8 ∧ ∀ k < 8, u.dacc.getMsbD k = d0.line.levelAt (ps.getD k 0)

/-- EXTRACT_BYTE with one data line emits the byte of eight cycles. Derived from spec/ 43_data_extractor.md sections 2
to 7. The model's choices in it: log 22. -/
def Obligations.ExtractOneLineByte : Prop :=
  ∀ (sss : BitVec 3) (s u : State) (d0 : Cursor) (ps bs : List Nat) (b : Byte), s.dat = .one d0 →
    s.cursorsWf = true → s.dataAligned = true →
    State.bitWalk 8 s = some (ps, bs, u) → s.reads ps b = true → s.notDue u = true → s.unitCount ≠ 513 →
    exec (.extractByte sss) s = .next { s with
        phase := .readData, dacc := b, dnb := 8, byteStart := bs.getD 7 0, unitCount := s.unitCount + 1
        packetOpen := s.packetOpen || !s.config.suppressDataFrames, clk := u.clk, dat := u.dat
        out := s.out ++ ps.map (fun p => .marker p .sampleEdge .clk)
          ++ shown s.config.suppressDataFrames (.upTo .dataByte s.byteStart (bs.getD 7 0) (b.setWidth 64) 0 0)
          ++ [.progress u.clk.pos] }

/-- EXTRACT_BYTE with four data lines emits the byte of two cycles, DAT3 most significant. Derived from spec/
43_data_extractor.md sections 2 to 7. The model's choices in it: log 22. -/
def Obligations.ExtractFourLineByte : Prop :=
  ∀ (sss : BitVec 3) (s u : State) (d0 d1 d2 d3 : Cursor) (ps bs : List Nat) (b : Byte), s.dat = .four d0 d1 d2 d3 →
    s.cursorsWf = true → s.dataAligned = true →
    State.bitWalk 2 s = some (ps, bs, u) → s.reads ps b = true → s.notDue u = true → s.unitCount ≠ 513 →
    exec (.extractByte sss) s = .next { s with
        phase := .readData, dacc := b, dnb := 8, byteStart := bs.getD 1 0, unitCount := s.unitCount + 1
        packetOpen := s.packetOpen || !s.config.suppressDataFrames, clk := u.clk, dat := u.dat
        out := s.out ++ ps.map (fun p => .marker p .sampleEdge .clk)
          ++ shown s.config.suppressDataFrames (.upTo .dataByte s.byteStart (bs.getD 1 0) (b.setWidth 64) 0 0)
          ++ [.progress u.clk.pos] }

/-- A command that starts in the middle of a byte drops the byte and closes the packet. Derived from spec/
43_data_extractor.md sections 3, 4 and 7; 45_decode_driver.md section 2; 60_exceptions.md section 3. The model's
choices in it: log 22. -/
def Obligations.InterruptionDropsAPartialByte : Prop :=
  ∀ (sss : BitVec 3) (s u : State) (ps bs : List Nat) (k : Nat), s.cursorsWf = true → s.dataAligned = true →
    k + 1 < s.unitCycles → State.bitWalk (k + 1) s = some (ps, bs, u) → s.due u = true →
    (k = 0 ∨ bs.getD k 0 < s.cmdStartSample) →
    exec (.extractByte sss) s = .next { s with
      phase := .analyzeCommand, dacc := s.partialByte ps, dnb := BitVec.ofNat 4 ((k + 1) * s.nDat), packetOpen := false
      clk := u.clk, dat := u.dat
      out := s.out ++ ps.map (fun p => .marker p .sampleEdge .clk) ++ committed s.packetOpen }

/-- A command that starts as a byte completes: the byte is emitted, then the packet closes, at any count. Derived from
spec/ 43_data_extractor.md sections 4 and 7; 60_exceptions.md section 4. The model's choices in it: log 22. -/
def Obligations.InterruptionAfterACompleteByte : Prop :=
  ∀ (sss : BitVec 3) (s u : State) (ps bs : List Nat) (b : Byte) (k : Nat), s.cursorsWf = true →
    s.dataAligned = true → k + 1 = s.unitCycles → State.bitWalk (k + 1) s = some (ps, bs, u) → s.reads ps b = true →
    s.due u = true → bs.getD k 0 < s.cmdStartSample →
    exec (.extractByte sss) s = .next { s with
      phase := .analyzeCommand, dacc := b, dnb := 8, byteStart := bs.getD k 0, unitCount := s.unitCount + 1
      packetOpen := false, clk := u.clk, dat := u.dat
      out := s.out ++ ps.map (fun p => .marker p .sampleEdge .clk)
        ++ shown s.config.suppressDataFrames (.upTo .dataByte s.byteStart (bs.getD k 0) (b.setWidth 64) 0 0)
        ++ [.progress u.clk.pos] ++ committed (s.packetOpen || !s.config.suppressDataFrames) }

/-- The 514th unit closes the packet; with no further data start the driver leaves ReadData. Derived from spec/
43_data_extractor.md sections 3, 6 and 7; 42_data_presence_arbiter.md section 2; 45_decode_driver.md section 2. The
model's choices in it: log 22. -/
def Obligations.BlockEndsWithNoFurtherData : Prop :=
  ∀ (sss : BitVec 3) (s u : State) (ps bs : List Nat) (b : Byte) (k c : Nat), s.cursorsWf = true →
    s.dataAligned = true → k + 1 = s.unitCycles → State.bitWalk (k + 1) s = some (ps, bs, u) → s.reads ps b = true →
    s.notDue u = true → s.unitCount = 513 → u.noDataFall = true →
    c = u.lastPassed →
    u.clk.pos ≤ c ∧ (s.cmdStartValid = true → c ≤ max u.clk.pos s.cmdStartSample) ∧
    exec (.extractByte sss) s = .next { s with
      phase := if s.cmdStartValid then .analyzeCommand else .terminated
      dacc := b, dnb := 8, byteStart := bs.getD k 0, unitCount := 514, packetOpen := false
      clk := .placed s.clk.line c, dat := s.dat.map (fun d => .placed d.line c)
      out := s.out ++ ps.map (fun p => .marker p .sampleEdge .clk)
        ++ shown s.config.suppressDataFrames (.upTo .dataByte s.byteStart (bs.getD k 0) (b.setWidth 64) 0 0)
        ++ [.progress u.clk.pos] ++ committed (s.packetOpen || !s.config.suppressDataFrames) ++ [.progress u.clk.pos]
        ++ (if s.cmdStartValid then [] else [.terminated .exhausted]) }

/-- The 514th unit closes the packet; a further data start is aligned and reading goes on. Derived from spec/
43_data_extractor.md sections 3, 6 and 7; 42_data_presence_arbiter.md section 3. The model's choices in it: log 22. -/
def Obligations.BlockEndsWithFurtherData : Prop :=
  ∀ (sss : BitVec 3) (s u : State) (ps bs : List Nat) (b : Byte) (k p c : Nat), s.cursorsWf = true →
    s.dataAligned = true → k + 1 = s.unitCycles → State.bitWalk (k + 1) s = some (ps, bs, u) → s.reads ps b = true →
    s.notDue u = true → s.unitCount = 513 → u.firstDataFall p = true →
    (s.cmdStartValid = true → p ≤ s.cmdStartSample) → u.alignedAt p c = true →
    exec (.extractByte sss) s = .next { s with
      phase := .readData, dacc := b, dnb := 8, byteStart := c, unitCount := 0, packetOpen := false
      dataStartSample := p, dataBlockStartSample := c
      clk := .placed s.clk.line c, dat := s.dat.map (fun d => .placed d.line c)
      out := s.out ++ ps.map (fun p => .marker p .sampleEdge .clk)
        ++ shown s.config.suppressDataFrames (.upTo .dataByte s.byteStart (bs.getD k 0) (b.setWidth 64) 0 0)
        ++ [.progress u.clk.pos] ++ committed (s.packetOpen || !s.config.suppressDataFrames) ++ [.progress u.clk.pos] }

/-- A clock that ends inside a byte or an alignment ends the run; the byte is not emitted. Derived from spec/
43_data_extractor.md sections 3, 4 and 7; 42_data_presence_arbiter.md section 3; 45_decode_driver.md section 2
(TERMINATE); 60_exceptions.md sections 2 and 4. The model's choices in it: log 22. -/
def Obligations.EndOfStreamWhileReadingData : Prop :=
  ∀ (sss : BitVec 3) (s u v : State) (ps bs : List Nat) (j p : Nat) (b : Byte),
    s.cursorsWf = true → s.dataAligned = true →
    (j < s.unitCycles → State.bitWalk j s = some (ps, bs, u) → (j = 0 ∨ s.notDue u = true) →
      u.bitStep none = .signal .endOfStream v →
      exec (.extractByte sss) s = .next { s with
        phase := .terminated, packetOpen := false, clk := v.clk, dat := v.dat
        dacc := s.partialByte (ps ++ [u.clk.pos]), dnb := BitVec.ofNat 4 ((j + 1) * s.nDat)
        out := s.out ++ (ps ++ [u.clk.pos]).map (fun p => .marker p .sampleEdge .clk)
          ++ terminationEvents s.packetOpen .endOfStream }) ∧
    (j < s.unitCycles → State.bitWalk (j + 1) s = some (ps, bs, u) → s.cmdStartValid = true →
      (j = 0 ∨ bs.getD j 0 < s.cmdStartSample) → u.clk.ahead = [] →
      exec (.extractByte sss) s = .next { s with
        phase := .terminated, packetOpen := false, clk := u.clk, dat := u.dat
        dacc := s.partialByte ps, dnb := BitVec.ofNat 4 ((j + 1) * s.nDat)
        out := s.out ++ ps.map (fun p => .marker p .sampleEdge .clk) ++ terminationEvents s.packetOpen .endOfStream }) ∧
    (s.firstDataFall p = true → (s.cmdStartValid = true → p ≤ s.cmdStartSample) → s.unalignable p = true →
      exec (.arbitrate sss) s = .next { s with
        phase := .terminated, packetOpen := false, dataStartSample := p
        clk := .placed s.clk.line (max p s.clk.line.lastEdge), dat := s.dat.map (fun d => .placed d.line p)
        out := s.out ++ terminationEvents s.packetOpen .endOfStream }) ∧
    (j + 1 = s.unitCycles → State.bitWalk (j + 1) s = some (ps, bs, u) → s.reads ps b = true → s.notDue u = true →
      s.unitCount = 513 → u.firstDataFall p = true → (s.cmdStartValid = true → p ≤ s.cmdStartSample) →
      u.unalignable p = true →
      exec (.extractByte sss) s = .next { s with
        phase := .terminated, packetOpen := false, dataStartSample := p
        dacc := b, dnb := 8, byteStart := bs.getD j 0, unitCount := 514
        clk := .placed s.clk.line (max p s.clk.line.lastEdge), dat := s.dat.map (fun d => .placed d.line p)
        out := s.out ++ ps.map (fun p => .marker p .sampleEdge .clk)
          ++ shown s.config.suppressDataFrames (.upTo .dataByte s.byteStart (bs.getD j 0) (b.setWidth 64) 0 0)
          ++ [.progress u.clk.pos] ++ committed (s.packetOpen || !s.config.suppressDataFrames) ++ [.progress u.clk.pos]
          ++ [.terminated .endOfStream] })

/-- DATA1 and DATA4 are one EXTRACT_BYTE iteration whose byte is the unit. Derived from spec/ 30_encoding.md section 1
(DATA1, DATA4); 43_data_extractor.md sections 2 to 7. The model's choices in it: log 22, 24. -/
def Obligations.DataUnitsEmitTheirByte : Prop :=
  ∀ (d : Byte) (i : Instr) (k : Nat) (s u : State) (ps bs : List Nat),
    (k = 7 ∧ i = .data1 d ∧ ∃ d0, s.dat = .one d0) ∨ (k = 1 ∧ i = .data4 d ∧ ∃ d0 d1 d2 d3, s.dat = .four d0 d1 d2 d3) →
    State.bitWalk (k + 1) s = some (ps, bs, u) → s.notDue u = true → s.unitCount ≠ 513 →
    exec i s = .next { s with
      phase := .readData, dacc := d, dnb := 8, byteStart := bs.getD k 0, unitCount := s.unitCount + 1
      packetOpen := s.packetOpen || !s.config.suppressDataFrames, clk := u.clk, dat := u.dat
      out := s.out ++ ps.map (fun p => .marker p .sampleEdge .clk)
        ++ shown s.config.suppressDataFrames (.upTo .dataByte s.byteStart (bs.getD k 0) (d.setWidth 64) 0 0)
        ++ [.progress u.clk.pos] }

/-- A byte-unit given whole and the same unit sampled from the lines have one meaning. Derived from spec/
30_encoding.md section 1 (DATA1, DATA4); 43_data_extractor.md sections 2 to 7. The model's choices in it: log 24. -/
def Obligations.DataUnitIsTheSampledByte : Prop :=
  ∀ (d : Byte) (sss : BitVec 3) (s : State), s.carriesUnit d = true →
    (∀ d0, s.dat = .one d0 → exec (.data1 d) s = exec (.extractByte sss) s) ∧
    (∀ d0 d1 d2 d3, s.dat = .four d0 d1 d2 d3 → exec (.data4 d) s = exec (.extractByte sss) s)

/-- EXTRACT_BYTE without a data line, and a unit of the other format, stop. Derived from spec/ 30_encoding.md section
4; 40_edge_cursor.md section 5. The model's choices in it: log 11, 12. -/
def Obligations.DataRowsNeedTheirLines : Prop :=
  ∀ (d : Byte) (sss : BitVec 3) (s : State),
    (s.dat = .absent → exec (.extractByte sss) s = .fault .absentDataLine) ∧
    (s.nDat ≠ 1 → exec (.data1 d) s = .fault .dataFormatNotSelected) ∧
    (s.nDat ≠ 4 → exec (.data4 d) s = .fault .dataFormatNotSelected)

/-- Each of the 64 CMDn rows is one exchange: its six frames, one packet, and the index remembered. Derived from spec/
30_encoding.md section 1 (CMD48); 44_frame_state_machine.md section 2; 45_decode_driver.md section 3. The model's
choices in it: log 5. -/
def Obligations.HostCommandExchange : Prop :=
  ∀ (n : BitVec 6) (arg : BitVec 32) (crc : BitVec 7) (stop : BitVec 1) (s u : State) (ends : List Nat),
    s.exchangeWalk 47 = some (ends, u) → s.notCancelled 47 = true →
    ∃ o, exec (hostCommand n arg crc stop) s = .next { s with
        phase := .findCmdStart, frameState := .startBit, countdown := 0, acc := crc.setWidth 64, hi := 0, nbits := 32, dir := true, respLong := false, lastHostCmd := n, lastHostCmdValid := true
        fieldStart := ends.getD 47 0, packetOpen := false, clk := u.clk, cmd := u.cmd, dat := u.dat
        cancelRequests := s.cancelRequests.drop 47, presented := none, out := o } ∧
      visible o = visible s.out ++ s.exchange48 ends true .command n arg crc 0 ++ [.progress u.clk.pos]

/-- Each of the 24 ACMDn rows is one exchange with an AppCommand frame. Derived from spec/ 30_encoding.md sections 1
and 4; 44_frame_state_machine.md section 2; 45_decode_driver.md section 3. The model's choices in it: log 5. -/
def Obligations.AppCommandExchange : Prop :=
  ∀ (n : BitVec 6) (arg : BitVec 32) (crc : BitVec 7) (stop : BitVec 1) (i : Instr) (s u : State) (ends : List Nat),
    appCommand n arg crc stop = some i → s.exchangeWalk 47 = some (ends, u) → s.notCancelled 47 = true →
    ∃ o, exec i s = .next { s with
        phase := .findCmdStart, frameState := .startBit, countdown := 0, acc := crc.setWidth 64, hi := 0, nbits := 32, dir := true, respLong := false, lastHostCmd := n, lastHostCmdValid := true
        fieldStart := ends.getD 47 0, packetOpen := false, clk := u.clk, cmd := u.cmd, dat := u.dat
        cancelRequests := s.cancelRequests.drop 47, presented := none, out := o } ∧
      visible o = visible s.out ++ s.exchange48 ends true .appCommand n arg crc 0 ++ [.progress u.clk.pos]

/-- RSP is one exchange with Direction 0 and a Response frame that names the last host command. Derived from spec/
30_encoding.md sections 1 and 2 (RSP48); 44_frame_state_machine.md section 2; 45_decode_driver.md section 3. The
model's choices in it: log 5. -/
def Obligations.ResponseExchange : Prop :=
  ∀ (idx : BitVec 6) (arg : BitVec 32) (crc : BitVec 7) (stop : BitVec 1) (s u : State) (ends : List Nat),
    s.exchangeWalk 47 = some (ends, u) → s.notCancelled 47 = true →
    ∃ o, exec (.rsp idx arg crc stop) s = .next { s with
        phase := .findCmdStart, frameState := .startBit, countdown := 0, acc := crc.setWidth 64, hi := 0, nbits := 32, dir := false, respLong := false
        fieldStart := ends.getD 47 0, packetOpen := false, clk := u.clk, cmd := u.cmd, dat := u.dat
        cancelRequests := s.cancelRequests.drop 47, presented := none, out := o } ∧
      visible o = visible s.out ++ s.exchange48 ends false .response idx arg crc s.responseFlags ++ [.progress u.clk.pos]

/-- RSP_LONG is one exchange of 136 cycles with a LongArgument frame and no CRC7 frame. Derived from spec/
30_encoding.md sections 1 and 2 (RSP136); 44_frame_state_machine.md section 2; 45_decode_driver.md section 3. The
model's choices in it: log 5. -/
def Obligations.LongResponseExchange : Prop :=
  ∀ (idx : BitVec 6) (hi : BitVec 64) (lo : BitVec 63) (stop : BitVec 1) (s u : State) (ends : List Nat),
    s.exchangeWalk 135 = some (ends, u) → s.notCancelled 135 = true →
    ∃ o, exec (.rspLong idx hi lo stop) s = .next { s with
        phase := .findCmdStart, frameState := .startBit, countdown := 0, acc := lo ++ 0#1, hi := hi, nbits := 127, dir := false, respLong := true
        fieldStart := ends.getD 135 0, packetOpen := false, clk := u.clk, cmd := u.cmd, dat := u.dat
        cancelRequests := s.cancelRequests.drop 135, presented := none, out := o } ∧
      visible o = visible s.out ++ s.exchange136 ends idx hi lo s.responseFlags ++ [.progress u.clk.pos]

/-- The stop bit of a frame has no effect on anything. Derived from spec/ 44_frame_state_machine.md section 2. -/
def Obligations.StopBitIsNotExamined : Prop :=
  ∀ (n : BitVec 6) (arg : BitVec 32) (crc : BitVec 7) (hi : BitVec 64) (lo : BitVec 63) (a b : BitVec 1) (s : State),
    exec (hostCommand n arg crc a) s = exec (hostCommand n arg crc b) s ∧
    (∀ i j, appCommand n arg crc a = some i → appCommand n arg crc b = some j → exec i s = exec j s) ∧
    exec (.rsp n arg crc a) s = exec (.rsp n arg crc b) s ∧
    exec (.rspLong n hi lo a) s = exec (.rspLong n hi lo b) s

/-- A bus frame given whole is the same as its bits sampled one cycle at a time. Derived from spec/ 30_encoding.md
section 4 (the two decoders); 44_frame_state_machine.md sections 1 and 2; 45_decode_driver.md section 2. The model's
choices in it: log 5, 8, 19, 21. -/
def Obligations.PresentedFrameIsTheSerialExchange : Prop :=
  ∀ (s : State) (u : BusUnit) (bits : List Bool), s.presented = none → s.phase = .analyzeCommand →
    s.frameState = .startBit →
    ((∃ w, u = .frame48 w ∧ bits = bitsOf w) ∨ (∃ w, u = .frame136 w ∧ bits = bitsOf w)) →
    State.carries bits s = true →
    (∀ i, decode s.context u = .ok i → step { s with presented := some u } = Host.Core.run core bits.length s) ∧
    ∃ k t, 1 ≤ k ∧ k ≤ bits.length ∧ Host.Core.run core k s = .next t ∧
      step { s with presented := some u } = .next t ∧ (k = bits.length ∨ t.phase ≠ .analyzeCommand) ∧
      ∀ j < k, ∃ r, Host.Core.run core j s = .next r ∧ r.phase = .analyzeCommand

/-- Every register at the start of a run. Derived from spec/ 10_state.md section 9; 92_eei_decisions.md D4, D27. The
model's choices in it: log 3, 4. -/
def Obligations.ResetState : Prop :=
  (∀ (g : Configuration) (n : Nat) (clk cmd : Line) (dat : DataSet Line) (cr : List Bool),
    State.initial g n clk cmd dat cr =
      { phase := .findCmdStart, frameState := .startBit, acc := 0, hi := 0, countdown := 0, nbits := 0
        dir := false, respLong := false, lastHostCmd := 0, lastHostCmdValid := false
        cmdStartSample := 0, cmdStartValid := false, dataStartSample := 0, dataBlockStartSample := 0
        fieldStart := 0, byteStart := 0, dacc := 0, dnb := 0, unitCount := 0, packetOpen := false
        clk := ⟨clk, 0, clk.init⟩, cmd := ⟨cmd, 0, cmd.init⟩, dat := dat.map (fun l => ⟨l, 0, l.init⟩)
        config := g, nSamples := n, cancelRequests := cr, out := [], presented := none }) ∧
  State.reset = State.initial ⟨.rising, false, false, 0, 1, []⟩ 1 ⟨true, []⟩ ⟨true, []⟩ .absent []

/-- The two invariants hold at the start of every run. Derived from spec/ 10_state.md sections 8 and 9; 20_memory.md
section 1. -/
def Obligations.RunsStartInTheInvariants : Prop :=
  (∀ (g : Configuration) (n : Nat) (clk cmd : Line) (dat : DataSet Line) (cr : List Bool),
    1 ≤ n → n < 2 ^ 64 → clk.wf n = true → cmd.wf n = true → (∀ l ∈ dat.toList, l.wf n = true) →
    (State.initial g n clk cmd dat cr).ControlInv ∧ (State.initial g n clk cmd dat cr).OutputInv) ∧
  State.reset.ControlInv ∧ State.reset.OutputInv

/-- Every step keeps the invariant of the control state. Derived from spec/ 10_state.md section 8; 40_edge_cursor.md
section 1; 42_data_presence_arbiter.md section 2; 43_data_extractor.md section 1; 44_frame_state_machine.md section 1.
-/
def Obligations.StepKeepsTheControlInvariant : Prop :=
  ∀ s t : State, s.ControlInv → step s = .next t → t.ControlInv

/-- Every step keeps the output well-formed: ranges, time order, abutting frames, one termination, no backward seek.
Derived from spec/ 20_memory.md sections 5 and 8; 44_frame_state_machine.md sections 1 to 3; 45_decode_driver.md
sections 1 and 3; 60_exceptions.md section 2. The model's choices in it: log 20. -/
def Obligations.StepKeepsTheOutputInvariant : Prop :=
  ∀ s t : State, s.ControlInv → s.OutputInv → step s = .next t → t.OutputInv

/-- In the control invariant a step never faults and is never refused. Derived from spec/ 45_decode_driver.md section
2; 60_exceptions.md sections 1 and 2. -/
def Obligations.InvariantStatesAlwaysStep : Prop :=
  ∀ s : State, s.ControlInv → ∃ t, step s = .next t

/-- No step moves a cursor backward or changes a line, the configuration or the length of the capture. Derived from
spec/ 40_edge_cursor.md section 4; 20_memory.md section 7; 10_state.md section 5. -/
def Obligations.StepMovesForwardAndKeepsTheInputs : Prop :=
  ∀ s t : State, step s = .next t →
    t.lines = s.lines ∧ t.config = s.config ∧ t.nSamples = s.nSamples ∧
    s.clk.pos ≤ t.clk.pos ∧ s.cmd.pos ≤ t.cmd.pos ∧
    ∀ x ∈ List.zip s.dat.toList t.dat.toList, x.1.pos ≤ x.2.pos

/-- No step revises what has been emitted. Derived from spec/ 20_memory.md section 5; 10_state.md section 7. -/
def Obligations.OutputIsAppendOnly : Prop :=
  ∀ s t : State, step s = .next t → ∃ es, t.out = s.out ++ es

/-- Only a completing host-to-slave CommandField writes the last host command. Derived from spec/ 10_state.md section
3 (last_host_cmd); 44_frame_state_machine.md section 2. -/
def Obligations.LastHostCommandIsWrittenByCommandFieldOnly : Prop :=
  ∀ s t : State, s.presented = none → step s = .next t →
    (t.lastHostCmd ≠ s.lastHostCmd ∨ t.lastHostCmdValid ≠ s.lastHostCmdValid) →
    s.frameState = .commandField ∧ s.dir = true ∧ s.countdown = 1 ∧ t.lastHostCmdValid = true ∧
      (s.phase = .analyzeCommand ∨ s.phase = .findDataStart)

/-- Every run ends. Derived from spec/ 45_decode_driver.md section 3 (end of a run). -/
def Obligations.EveryRunEnds : Prop :=
  ∀ s : State, s.ControlInv → ∃ n t, Host.Core.run core n s = .next t ∧ t.phase = .terminated

/-- A wrong data-line set or shared channels are rejected before the run, in that order. Derived from spec/
60_exceptions.md section 2 (ConfigError); 92_eei_decisions.md D29. The model's choices in it: log 17, 26, 27. -/
def Obligations.ConfigurationIsCheckedBeforeTheRun : Prop :=
  ∀ (r : HostRequest) (c : Capture) (cr sel : List Bool) (data : List Nat),
    sel = [r.chanDat0.isSome, r.chanDat1.isSome, r.chanDat2.isSome, r.chanDat3.isSome] →
    data = [r.chanDat0, r.chanDat1, r.chanDat2, r.chanDat3].filterMap id →
    (sel ∉ [[false, false, false, false], [true, false, false, false], [true, true, true, true]] →
      configure r c cr = .fault (.configError .invalidDataLineCount)) ∧
    (sel ∈ [[false, false, false, false], [true, false, false, false], [true, true, true, true]] →
      (¬ (r.chanClk :: r.chanCmd :: data).Nodup → configure r c cr = .fault (.configError .overlappingChannels)) ∧
      ((r.chanClk :: r.chanCmd :: data).Nodup →
        configure r c cr = .next (State.initial
          ⟨r.sampleEdge, r.suppressDataFrames, r.suppressStartStopFrames, r.chanClk, r.chanCmd, data⟩
          c.nSamples c.clk c.cmd
          (if sel = [false, false, false, false] then .absent
           else if sel = [true, false, false, false] then .one c.dat0
           else .four c.dat0 c.dat1 c.dat2 c.dat3)
          cr)))

/-- What the packet operations and the end of a run append and write. Derived from spec/ 45_decode_driver.md sections
1 and 2 (AddFrame, ClosePacket, TERMINATE); 92_eei_decisions.md D23, D26. -/
def Obligations.PacketOperations : Prop :=
  ∀ (s : State) (f : Frame) (r : Reason),
    s.addFrame f = { s with packetOpen := true, out := s.out ++ [.addFrame f] } ∧
    s.closePacket = { s with packetOpen := false, out := s.out ++ committed s.packetOpen } ∧
    s.terminate r = { s with phase := .terminated, packetOpen := false, out := s.out ++ terminationEvents s.packetOpen r }

/-- Frames never overlap, across packets too, unless the command line falls after a midpoint; then a Start and a Stop
frame can. Derived from spec/ 20_memory.md section 8; 44_frame_state_machine.md sections 1 and 3;
70_reset_and_hazards.md section 4; 90_conflicts.md C4. The model's choices in it: log 20. -/
def Obligations.FramesAreInStrictOrder : Prop :=
  (∀ (s t : State) (k : Nat), s.ControlInv → s.OutputInv → s.fallsOutsideLastHalf = true →
    Host.Core.run core k s = .next t → (framesOf t.out).Pairwise (fun f g => f.last < g.first)) ∧
  ∃ (n : Nat) (clk cmd : Line) (k : Nat) (t : State) (f g : Frame) (fs gs : List Frame),
    clk.wf n = true ∧ cmd.wf n = true ∧ n < 2 ^ 64 ∧
    Host.Core.run core k (State.initial ⟨.rising, false, false, 0, 1, []⟩ n clk cmd .absent []) = .next t ∧
    framesOf t.out = fs ++ f :: g :: gs ∧ f.kind = .stop ∧ g.kind = .start ∧ g.first ≤ f.last

end
end

