-- ==== Sys2Proof/Laws/State.lean ====
section
/-! SUPPORT. What each named update of State leaves in each field: one lemma a field, so that no proof unfolds a record
update. -/

namespace Sys2Proof.Machine

open Sys2Proof

/-! `State.emit`. -/

@[simp] theorem State.emit_phase (e : Event) (s : State) : (s.emit e).phase = s.phase := rfl
@[simp] theorem State.emit_frameState (e : Event) (s : State) : (s.emit e).frameState = s.frameState := rfl
@[simp] theorem State.emit_acc (e : Event) (s : State) : (s.emit e).acc = s.acc := rfl
@[simp] theorem State.emit_hi (e : Event) (s : State) : (s.emit e).hi = s.hi := rfl
@[simp] theorem State.emit_countdown (e : Event) (s : State) : (s.emit e).countdown = s.countdown := rfl
@[simp] theorem State.emit_nbits (e : Event) (s : State) : (s.emit e).nbits = s.nbits := rfl
@[simp] theorem State.emit_dir (e : Event) (s : State) : (s.emit e).dir = s.dir := rfl
@[simp] theorem State.emit_respLong (e : Event) (s : State) : (s.emit e).respLong = s.respLong := rfl
@[simp] theorem State.emit_lastHostCmd (e : Event) (s : State) : (s.emit e).lastHostCmd = s.lastHostCmd := rfl
@[simp] theorem State.emit_lastHostCmdValid (e : Event) (s : State) : (s.emit e).lastHostCmdValid = s.lastHostCmdValid := rfl
@[simp] theorem State.emit_cmdStartSample (e : Event) (s : State) : (s.emit e).cmdStartSample = s.cmdStartSample := rfl
@[simp] theorem State.emit_cmdStartValid (e : Event) (s : State) : (s.emit e).cmdStartValid = s.cmdStartValid := rfl
@[simp] theorem State.emit_dataStartSample (e : Event) (s : State) : (s.emit e).dataStartSample = s.dataStartSample := rfl
@[simp] theorem State.emit_dataBlockStartSample (e : Event) (s : State) : (s.emit e).dataBlockStartSample = s.dataBlockStartSample := rfl
@[simp] theorem State.emit_fieldStart (e : Event) (s : State) : (s.emit e).fieldStart = s.fieldStart := rfl
@[simp] theorem State.emit_byteStart (e : Event) (s : State) : (s.emit e).byteStart = s.byteStart := rfl
@[simp] theorem State.emit_dacc (e : Event) (s : State) : (s.emit e).dacc = s.dacc := rfl
@[simp] theorem State.emit_dnb (e : Event) (s : State) : (s.emit e).dnb = s.dnb := rfl
@[simp] theorem State.emit_unitCount (e : Event) (s : State) : (s.emit e).unitCount = s.unitCount := rfl
@[simp] theorem State.emit_packetOpen (e : Event) (s : State) : (s.emit e).packetOpen = s.packetOpen := rfl
@[simp] theorem State.emit_clk (e : Event) (s : State) : (s.emit e).clk = s.clk := rfl
@[simp] theorem State.emit_cmd (e : Event) (s : State) : (s.emit e).cmd = s.cmd := rfl
@[simp] theorem State.emit_dat (e : Event) (s : State) : (s.emit e).dat = s.dat := rfl
@[simp] theorem State.emit_config (e : Event) (s : State) : (s.emit e).config = s.config := rfl
@[simp] theorem State.emit_nSamples (e : Event) (s : State) : (s.emit e).nSamples = s.nSamples := rfl
@[simp] theorem State.emit_cancelRequests (e : Event) (s : State) : (s.emit e).cancelRequests = s.cancelRequests := rfl
@[simp] theorem State.emit_out (e : Event) (s : State) : (s.emit e).out = s.out ++ [e] := rfl
@[simp] theorem State.emit_presented (e : Event) (s : State) : (s.emit e).presented = s.presented := rfl

/-! `State.addFrame`. -/

@[simp] theorem State.addFrame_phase (f : Frame) (s : State) : (s.addFrame f).phase = s.phase := rfl
@[simp] theorem State.addFrame_frameState (f : Frame) (s : State) : (s.addFrame f).frameState = s.frameState := rfl
@[simp] theorem State.addFrame_acc (f : Frame) (s : State) : (s.addFrame f).acc = s.acc := rfl
@[simp] theorem State.addFrame_hi (f : Frame) (s : State) : (s.addFrame f).hi = s.hi := rfl
@[simp] theorem State.addFrame_countdown (f : Frame) (s : State) : (s.addFrame f).countdown = s.countdown := rfl
@[simp] theorem State.addFrame_nbits (f : Frame) (s : State) : (s.addFrame f).nbits = s.nbits := rfl
@[simp] theorem State.addFrame_dir (f : Frame) (s : State) : (s.addFrame f).dir = s.dir := rfl
@[simp] theorem State.addFrame_respLong (f : Frame) (s : State) : (s.addFrame f).respLong = s.respLong := rfl
@[simp] theorem State.addFrame_lastHostCmd (f : Frame) (s : State) : (s.addFrame f).lastHostCmd = s.lastHostCmd := rfl
@[simp] theorem State.addFrame_lastHostCmdValid (f : Frame) (s : State) : (s.addFrame f).lastHostCmdValid = s.lastHostCmdValid := rfl
@[simp] theorem State.addFrame_cmdStartSample (f : Frame) (s : State) : (s.addFrame f).cmdStartSample = s.cmdStartSample := rfl
@[simp] theorem State.addFrame_cmdStartValid (f : Frame) (s : State) : (s.addFrame f).cmdStartValid = s.cmdStartValid := rfl
@[simp] theorem State.addFrame_dataStartSample (f : Frame) (s : State) : (s.addFrame f).dataStartSample = s.dataStartSample := rfl
@[simp] theorem State.addFrame_dataBlockStartSample (f : Frame) (s : State) : (s.addFrame f).dataBlockStartSample = s.dataBlockStartSample := rfl
@[simp] theorem State.addFrame_fieldStart (f : Frame) (s : State) : (s.addFrame f).fieldStart = s.fieldStart := rfl
@[simp] theorem State.addFrame_byteStart (f : Frame) (s : State) : (s.addFrame f).byteStart = s.byteStart := rfl
@[simp] theorem State.addFrame_dacc (f : Frame) (s : State) : (s.addFrame f).dacc = s.dacc := rfl
@[simp] theorem State.addFrame_dnb (f : Frame) (s : State) : (s.addFrame f).dnb = s.dnb := rfl
@[simp] theorem State.addFrame_unitCount (f : Frame) (s : State) : (s.addFrame f).unitCount = s.unitCount := rfl
@[simp] theorem State.addFrame_packetOpen (f : Frame) (s : State) : (s.addFrame f).packetOpen = true := rfl
@[simp] theorem State.addFrame_clk (f : Frame) (s : State) : (s.addFrame f).clk = s.clk := rfl
@[simp] theorem State.addFrame_cmd (f : Frame) (s : State) : (s.addFrame f).cmd = s.cmd := rfl
@[simp] theorem State.addFrame_dat (f : Frame) (s : State) : (s.addFrame f).dat = s.dat := rfl
@[simp] theorem State.addFrame_config (f : Frame) (s : State) : (s.addFrame f).config = s.config := rfl
@[simp] theorem State.addFrame_nSamples (f : Frame) (s : State) : (s.addFrame f).nSamples = s.nSamples := rfl
@[simp] theorem State.addFrame_cancelRequests (f : Frame) (s : State) : (s.addFrame f).cancelRequests = s.cancelRequests := rfl
@[simp] theorem State.addFrame_out (f : Frame) (s : State) : (s.addFrame f).out = s.out ++ [.addFrame f] := rfl
@[simp] theorem State.addFrame_presented (f : Frame) (s : State) : (s.addFrame f).presented = s.presented := rfl

/-! `State.commitPacket`. -/

@[simp] theorem State.commitPacket_phase (s : State) : s.commitPacket.phase = s.phase := rfl
@[simp] theorem State.commitPacket_frameState (s : State) : s.commitPacket.frameState = s.frameState := rfl
@[simp] theorem State.commitPacket_acc (s : State) : s.commitPacket.acc = s.acc := rfl
@[simp] theorem State.commitPacket_hi (s : State) : s.commitPacket.hi = s.hi := rfl
@[simp] theorem State.commitPacket_countdown (s : State) : s.commitPacket.countdown = s.countdown := rfl
@[simp] theorem State.commitPacket_nbits (s : State) : s.commitPacket.nbits = s.nbits := rfl
@[simp] theorem State.commitPacket_dir (s : State) : s.commitPacket.dir = s.dir := rfl
@[simp] theorem State.commitPacket_respLong (s : State) : s.commitPacket.respLong = s.respLong := rfl
@[simp] theorem State.commitPacket_lastHostCmd (s : State) : s.commitPacket.lastHostCmd = s.lastHostCmd := rfl
@[simp] theorem State.commitPacket_lastHostCmdValid (s : State) : s.commitPacket.lastHostCmdValid = s.lastHostCmdValid := rfl
@[simp] theorem State.commitPacket_cmdStartSample (s : State) : s.commitPacket.cmdStartSample = s.cmdStartSample := rfl
@[simp] theorem State.commitPacket_cmdStartValid (s : State) : s.commitPacket.cmdStartValid = s.cmdStartValid := rfl
@[simp] theorem State.commitPacket_dataStartSample (s : State) : s.commitPacket.dataStartSample = s.dataStartSample := rfl
@[simp] theorem State.commitPacket_dataBlockStartSample (s : State) : s.commitPacket.dataBlockStartSample = s.dataBlockStartSample := rfl
@[simp] theorem State.commitPacket_fieldStart (s : State) : s.commitPacket.fieldStart = s.fieldStart := rfl
@[simp] theorem State.commitPacket_byteStart (s : State) : s.commitPacket.byteStart = s.byteStart := rfl
@[simp] theorem State.commitPacket_dacc (s : State) : s.commitPacket.dacc = s.dacc := rfl
@[simp] theorem State.commitPacket_dnb (s : State) : s.commitPacket.dnb = s.dnb := rfl
@[simp] theorem State.commitPacket_unitCount (s : State) : s.commitPacket.unitCount = s.unitCount := rfl
@[simp] theorem State.commitPacket_packetOpen (s : State) : s.commitPacket.packetOpen = false := rfl
@[simp] theorem State.commitPacket_clk (s : State) : s.commitPacket.clk = s.clk := rfl
@[simp] theorem State.commitPacket_cmd (s : State) : s.commitPacket.cmd = s.cmd := rfl
@[simp] theorem State.commitPacket_dat (s : State) : s.commitPacket.dat = s.dat := rfl
@[simp] theorem State.commitPacket_config (s : State) : s.commitPacket.config = s.config := rfl
@[simp] theorem State.commitPacket_nSamples (s : State) : s.commitPacket.nSamples = s.nSamples := rfl
@[simp] theorem State.commitPacket_cancelRequests (s : State) : s.commitPacket.cancelRequests = s.cancelRequests := rfl
@[simp] theorem State.commitPacket_out (s : State) : s.commitPacket.out = s.out ++ [.commitPacket] := rfl
@[simp] theorem State.commitPacket_presented (s : State) : s.commitPacket.presented = s.presented := rfl

/-! `State.cancelPacket`. -/

@[simp] theorem State.cancelPacket_phase (s : State) : s.cancelPacket.phase = s.phase := rfl
@[simp] theorem State.cancelPacket_frameState (s : State) : s.cancelPacket.frameState = s.frameState := rfl
@[simp] theorem State.cancelPacket_acc (s : State) : s.cancelPacket.acc = s.acc := rfl
@[simp] theorem State.cancelPacket_hi (s : State) : s.cancelPacket.hi = s.hi := rfl
@[simp] theorem State.cancelPacket_countdown (s : State) : s.cancelPacket.countdown = s.countdown := rfl
@[simp] theorem State.cancelPacket_nbits (s : State) : s.cancelPacket.nbits = s.nbits := rfl
@[simp] theorem State.cancelPacket_dir (s : State) : s.cancelPacket.dir = s.dir := rfl
@[simp] theorem State.cancelPacket_respLong (s : State) : s.cancelPacket.respLong = s.respLong := rfl
@[simp] theorem State.cancelPacket_lastHostCmd (s : State) : s.cancelPacket.lastHostCmd = s.lastHostCmd := rfl
@[simp] theorem State.cancelPacket_lastHostCmdValid (s : State) : s.cancelPacket.lastHostCmdValid = s.lastHostCmdValid := rfl
@[simp] theorem State.cancelPacket_cmdStartSample (s : State) : s.cancelPacket.cmdStartSample = s.cmdStartSample := rfl
@[simp] theorem State.cancelPacket_cmdStartValid (s : State) : s.cancelPacket.cmdStartValid = s.cmdStartValid := rfl
@[simp] theorem State.cancelPacket_dataStartSample (s : State) : s.cancelPacket.dataStartSample = s.dataStartSample := rfl
@[simp] theorem State.cancelPacket_dataBlockStartSample (s : State) : s.cancelPacket.dataBlockStartSample = s.dataBlockStartSample := rfl
@[simp] theorem State.cancelPacket_fieldStart (s : State) : s.cancelPacket.fieldStart = s.fieldStart := rfl
@[simp] theorem State.cancelPacket_byteStart (s : State) : s.cancelPacket.byteStart = s.byteStart := rfl
@[simp] theorem State.cancelPacket_dacc (s : State) : s.cancelPacket.dacc = s.dacc := rfl
@[simp] theorem State.cancelPacket_dnb (s : State) : s.cancelPacket.dnb = s.dnb := rfl
@[simp] theorem State.cancelPacket_unitCount (s : State) : s.cancelPacket.unitCount = s.unitCount := rfl
@[simp] theorem State.cancelPacket_packetOpen (s : State) : s.cancelPacket.packetOpen = false := rfl
@[simp] theorem State.cancelPacket_clk (s : State) : s.cancelPacket.clk = s.clk := rfl
@[simp] theorem State.cancelPacket_cmd (s : State) : s.cancelPacket.cmd = s.cmd := rfl
@[simp] theorem State.cancelPacket_dat (s : State) : s.cancelPacket.dat = s.dat := rfl
@[simp] theorem State.cancelPacket_config (s : State) : s.cancelPacket.config = s.config := rfl
@[simp] theorem State.cancelPacket_nSamples (s : State) : s.cancelPacket.nSamples = s.nSamples := rfl
@[simp] theorem State.cancelPacket_cancelRequests (s : State) : s.cancelPacket.cancelRequests = s.cancelRequests := rfl
@[simp] theorem State.cancelPacket_out (s : State) : s.cancelPacket.out = s.out ++ [.cancelPacket] := rfl
@[simp] theorem State.cancelPacket_presented (s : State) : s.cancelPacket.presented = s.presented := rfl

/-! `State.marker`. -/

@[simp] theorem State.marker_phase (p : Nat) (k : MarkerKind) (c : Channel) (s : State) : (s.marker p k c).phase = s.phase := rfl
@[simp] theorem State.marker_frameState (p : Nat) (k : MarkerKind) (c : Channel) (s : State) : (s.marker p k c).frameState = s.frameState := rfl
@[simp] theorem State.marker_acc (p : Nat) (k : MarkerKind) (c : Channel) (s : State) : (s.marker p k c).acc = s.acc := rfl
@[simp] theorem State.marker_hi (p : Nat) (k : MarkerKind) (c : Channel) (s : State) : (s.marker p k c).hi = s.hi := rfl
@[simp] theorem State.marker_countdown (p : Nat) (k : MarkerKind) (c : Channel) (s : State) : (s.marker p k c).countdown = s.countdown := rfl
@[simp] theorem State.marker_nbits (p : Nat) (k : MarkerKind) (c : Channel) (s : State) : (s.marker p k c).nbits = s.nbits := rfl
@[simp] theorem State.marker_dir (p : Nat) (k : MarkerKind) (c : Channel) (s : State) : (s.marker p k c).dir = s.dir := rfl
@[simp] theorem State.marker_respLong (p : Nat) (k : MarkerKind) (c : Channel) (s : State) : (s.marker p k c).respLong = s.respLong := rfl
@[simp] theorem State.marker_lastHostCmd (p : Nat) (k : MarkerKind) (c : Channel) (s : State) : (s.marker p k c).lastHostCmd = s.lastHostCmd := rfl
@[simp] theorem State.marker_lastHostCmdValid (p : Nat) (k : MarkerKind) (c : Channel) (s : State) : (s.marker p k c).lastHostCmdValid = s.lastHostCmdValid := rfl
@[simp] theorem State.marker_cmdStartSample (p : Nat) (k : MarkerKind) (c : Channel) (s : State) : (s.marker p k c).cmdStartSample = s.cmdStartSample := rfl
@[simp] theorem State.marker_cmdStartValid (p : Nat) (k : MarkerKind) (c : Channel) (s : State) : (s.marker p k c).cmdStartValid = s.cmdStartValid := rfl
@[simp] theorem State.marker_dataStartSample (p : Nat) (k : MarkerKind) (c : Channel) (s : State) : (s.marker p k c).dataStartSample = s.dataStartSample := rfl
@[simp] theorem State.marker_dataBlockStartSample (p : Nat) (k : MarkerKind) (c : Channel) (s : State) : (s.marker p k c).dataBlockStartSample = s.dataBlockStartSample := rfl
@[simp] theorem State.marker_fieldStart (p : Nat) (k : MarkerKind) (c : Channel) (s : State) : (s.marker p k c).fieldStart = s.fieldStart := rfl
@[simp] theorem State.marker_byteStart (p : Nat) (k : MarkerKind) (c : Channel) (s : State) : (s.marker p k c).byteStart = s.byteStart := rfl
@[simp] theorem State.marker_dacc (p : Nat) (k : MarkerKind) (c : Channel) (s : State) : (s.marker p k c).dacc = s.dacc := rfl
@[simp] theorem State.marker_dnb (p : Nat) (k : MarkerKind) (c : Channel) (s : State) : (s.marker p k c).dnb = s.dnb := rfl
@[simp] theorem State.marker_unitCount (p : Nat) (k : MarkerKind) (c : Channel) (s : State) : (s.marker p k c).unitCount = s.unitCount := rfl
@[simp] theorem State.marker_packetOpen (p : Nat) (k : MarkerKind) (c : Channel) (s : State) : (s.marker p k c).packetOpen = s.packetOpen := rfl
@[simp] theorem State.marker_clk (p : Nat) (k : MarkerKind) (c : Channel) (s : State) : (s.marker p k c).clk = s.clk := rfl
@[simp] theorem State.marker_cmd (p : Nat) (k : MarkerKind) (c : Channel) (s : State) : (s.marker p k c).cmd = s.cmd := rfl
@[simp] theorem State.marker_dat (p : Nat) (k : MarkerKind) (c : Channel) (s : State) : (s.marker p k c).dat = s.dat := rfl
@[simp] theorem State.marker_config (p : Nat) (k : MarkerKind) (c : Channel) (s : State) : (s.marker p k c).config = s.config := rfl
@[simp] theorem State.marker_nSamples (p : Nat) (k : MarkerKind) (c : Channel) (s : State) : (s.marker p k c).nSamples = s.nSamples := rfl
@[simp] theorem State.marker_cancelRequests (p : Nat) (k : MarkerKind) (c : Channel) (s : State) : (s.marker p k c).cancelRequests = s.cancelRequests := rfl
@[simp] theorem State.marker_out (p : Nat) (k : MarkerKind) (c : Channel) (s : State) : (s.marker p k c).out = s.out ++ [.marker p k c] := rfl
@[simp] theorem State.marker_presented (p : Nat) (k : MarkerKind) (c : Channel) (s : State) : (s.marker p k c).presented = s.presented := rfl

/-! `State.progress`. -/

@[simp] theorem State.progress_phase (s : State) : s.progress.phase = s.phase := rfl
@[simp] theorem State.progress_frameState (s : State) : s.progress.frameState = s.frameState := rfl
@[simp] theorem State.progress_acc (s : State) : s.progress.acc = s.acc := rfl
@[simp] theorem State.progress_hi (s : State) : s.progress.hi = s.hi := rfl
@[simp] theorem State.progress_countdown (s : State) : s.progress.countdown = s.countdown := rfl
@[simp] theorem State.progress_nbits (s : State) : s.progress.nbits = s.nbits := rfl
@[simp] theorem State.progress_dir (s : State) : s.progress.dir = s.dir := rfl
@[simp] theorem State.progress_respLong (s : State) : s.progress.respLong = s.respLong := rfl
@[simp] theorem State.progress_lastHostCmd (s : State) : s.progress.lastHostCmd = s.lastHostCmd := rfl
@[simp] theorem State.progress_lastHostCmdValid (s : State) : s.progress.lastHostCmdValid = s.lastHostCmdValid := rfl
@[simp] theorem State.progress_cmdStartSample (s : State) : s.progress.cmdStartSample = s.cmdStartSample := rfl
@[simp] theorem State.progress_cmdStartValid (s : State) : s.progress.cmdStartValid = s.cmdStartValid := rfl
@[simp] theorem State.progress_dataStartSample (s : State) : s.progress.dataStartSample = s.dataStartSample := rfl
@[simp] theorem State.progress_dataBlockStartSample (s : State) : s.progress.dataBlockStartSample = s.dataBlockStartSample := rfl
@[simp] theorem State.progress_fieldStart (s : State) : s.progress.fieldStart = s.fieldStart := rfl
@[simp] theorem State.progress_byteStart (s : State) : s.progress.byteStart = s.byteStart := rfl
@[simp] theorem State.progress_dacc (s : State) : s.progress.dacc = s.dacc := rfl
@[simp] theorem State.progress_dnb (s : State) : s.progress.dnb = s.dnb := rfl
@[simp] theorem State.progress_unitCount (s : State) : s.progress.unitCount = s.unitCount := rfl
@[simp] theorem State.progress_packetOpen (s : State) : s.progress.packetOpen = s.packetOpen := rfl
@[simp] theorem State.progress_clk (s : State) : s.progress.clk = s.clk := rfl
@[simp] theorem State.progress_cmd (s : State) : s.progress.cmd = s.cmd := rfl
@[simp] theorem State.progress_dat (s : State) : s.progress.dat = s.dat := rfl
@[simp] theorem State.progress_config (s : State) : s.progress.config = s.config := rfl
@[simp] theorem State.progress_nSamples (s : State) : s.progress.nSamples = s.nSamples := rfl
@[simp] theorem State.progress_cancelRequests (s : State) : s.progress.cancelRequests = s.cancelRequests := rfl
@[simp] theorem State.progress_out (s : State) : s.progress.out = s.out ++ [.progress s.clk.pos] := rfl
@[simp] theorem State.progress_presented (s : State) : s.progress.presented = s.presented := rfl

/-! `State.taken`. -/

@[simp] theorem State.taken_phase (s : State) : s.taken.phase = s.phase := rfl
@[simp] theorem State.taken_frameState (s : State) : s.taken.frameState = s.frameState := rfl
@[simp] theorem State.taken_acc (s : State) : s.taken.acc = s.acc := rfl
@[simp] theorem State.taken_hi (s : State) : s.taken.hi = s.hi := rfl
@[simp] theorem State.taken_countdown (s : State) : s.taken.countdown = s.countdown := rfl
@[simp] theorem State.taken_nbits (s : State) : s.taken.nbits = s.nbits := rfl
@[simp] theorem State.taken_dir (s : State) : s.taken.dir = s.dir := rfl
@[simp] theorem State.taken_respLong (s : State) : s.taken.respLong = s.respLong := rfl
@[simp] theorem State.taken_lastHostCmd (s : State) : s.taken.lastHostCmd = s.lastHostCmd := rfl
@[simp] theorem State.taken_lastHostCmdValid (s : State) : s.taken.lastHostCmdValid = s.lastHostCmdValid := rfl
@[simp] theorem State.taken_cmdStartSample (s : State) : s.taken.cmdStartSample = s.cmdStartSample := rfl
@[simp] theorem State.taken_cmdStartValid (s : State) : s.taken.cmdStartValid = s.cmdStartValid := rfl
@[simp] theorem State.taken_dataStartSample (s : State) : s.taken.dataStartSample = s.dataStartSample := rfl
@[simp] theorem State.taken_dataBlockStartSample (s : State) : s.taken.dataBlockStartSample = s.dataBlockStartSample := rfl
@[simp] theorem State.taken_fieldStart (s : State) : s.taken.fieldStart = s.fieldStart := rfl
@[simp] theorem State.taken_byteStart (s : State) : s.taken.byteStart = s.byteStart := rfl
@[simp] theorem State.taken_dacc (s : State) : s.taken.dacc = s.dacc := rfl
@[simp] theorem State.taken_dnb (s : State) : s.taken.dnb = s.dnb := rfl
@[simp] theorem State.taken_unitCount (s : State) : s.taken.unitCount = s.unitCount := rfl
@[simp] theorem State.taken_packetOpen (s : State) : s.taken.packetOpen = s.packetOpen := rfl
@[simp] theorem State.taken_clk (s : State) : s.taken.clk = s.clk := rfl
@[simp] theorem State.taken_cmd (s : State) : s.taken.cmd = s.cmd := rfl
@[simp] theorem State.taken_dat (s : State) : s.taken.dat = s.dat := rfl
@[simp] theorem State.taken_config (s : State) : s.taken.config = s.config := rfl
@[simp] theorem State.taken_nSamples (s : State) : s.taken.nSamples = s.nSamples := rfl
@[simp] theorem State.taken_cancelRequests (s : State) : s.taken.cancelRequests = s.cancelRequests.tail := rfl
@[simp] theorem State.taken_out (s : State) : s.taken.out = s.out := rfl
@[simp] theorem State.taken_presented (s : State) : s.taken.presented = none := rfl

/-! `State.closePacket`. -/

@[simp] theorem State.closePacket_phase (s : State) : s.closePacket.phase = s.phase := by
  cases h : s.packetOpen <;> simp [State.closePacket, h]
@[simp] theorem State.closePacket_frameState (s : State) : s.closePacket.frameState = s.frameState := by
  cases h : s.packetOpen <;> simp [State.closePacket, h]
@[simp] theorem State.closePacket_acc (s : State) : s.closePacket.acc = s.acc := by
  cases h : s.packetOpen <;> simp [State.closePacket, h]
@[simp] theorem State.closePacket_hi (s : State) : s.closePacket.hi = s.hi := by
  cases h : s.packetOpen <;> simp [State.closePacket, h]
@[simp] theorem State.closePacket_countdown (s : State) : s.closePacket.countdown = s.countdown := by
  cases h : s.packetOpen <;> simp [State.closePacket, h]
@[simp] theorem State.closePacket_nbits (s : State) : s.closePacket.nbits = s.nbits := by
  cases h : s.packetOpen <;> simp [State.closePacket, h]
@[simp] theorem State.closePacket_dir (s : State) : s.closePacket.dir = s.dir := by
  cases h : s.packetOpen <;> simp [State.closePacket, h]
@[simp] theorem State.closePacket_respLong (s : State) : s.closePacket.respLong = s.respLong := by
  cases h : s.packetOpen <;> simp [State.closePacket, h]
@[simp] theorem State.closePacket_lastHostCmd (s : State) : s.closePacket.lastHostCmd = s.lastHostCmd := by
  cases h : s.packetOpen <;> simp [State.closePacket, h]
@[simp] theorem State.closePacket_lastHostCmdValid (s : State) : s.closePacket.lastHostCmdValid = s.lastHostCmdValid := by
  cases h : s.packetOpen <;> simp [State.closePacket, h]
@[simp] theorem State.closePacket_cmdStartSample (s : State) : s.closePacket.cmdStartSample = s.cmdStartSample := by
  cases h : s.packetOpen <;> simp [State.closePacket, h]
@[simp] theorem State.closePacket_cmdStartValid (s : State) : s.closePacket.cmdStartValid = s.cmdStartValid := by
  cases h : s.packetOpen <;> simp [State.closePacket, h]
@[simp] theorem State.closePacket_dataStartSample (s : State) : s.closePacket.dataStartSample = s.dataStartSample := by
  cases h : s.packetOpen <;> simp [State.closePacket, h]
@[simp] theorem State.closePacket_dataBlockStartSample (s : State) : s.closePacket.dataBlockStartSample = s.dataBlockStartSample := by
  cases h : s.packetOpen <;> simp [State.closePacket, h]
@[simp] theorem State.closePacket_fieldStart (s : State) : s.closePacket.fieldStart = s.fieldStart := by
  cases h : s.packetOpen <;> simp [State.closePacket, h]
@[simp] theorem State.closePacket_byteStart (s : State) : s.closePacket.byteStart = s.byteStart := by
  cases h : s.packetOpen <;> simp [State.closePacket, h]
@[simp] theorem State.closePacket_dacc (s : State) : s.closePacket.dacc = s.dacc := by
  cases h : s.packetOpen <;> simp [State.closePacket, h]
@[simp] theorem State.closePacket_dnb (s : State) : s.closePacket.dnb = s.dnb := by
  cases h : s.packetOpen <;> simp [State.closePacket, h]
@[simp] theorem State.closePacket_unitCount (s : State) : s.closePacket.unitCount = s.unitCount := by
  cases h : s.packetOpen <;> simp [State.closePacket, h]
@[simp] theorem State.closePacket_packetOpen (s : State) : s.closePacket.packetOpen = false := by
  cases h : s.packetOpen <;> simp [State.closePacket, h]
@[simp] theorem State.closePacket_clk (s : State) : s.closePacket.clk = s.clk := by
  cases h : s.packetOpen <;> simp [State.closePacket, h]
@[simp] theorem State.closePacket_cmd (s : State) : s.closePacket.cmd = s.cmd := by
  cases h : s.packetOpen <;> simp [State.closePacket, h]
@[simp] theorem State.closePacket_dat (s : State) : s.closePacket.dat = s.dat := by
  cases h : s.packetOpen <;> simp [State.closePacket, h]
@[simp] theorem State.closePacket_config (s : State) : s.closePacket.config = s.config := by
  cases h : s.packetOpen <;> simp [State.closePacket, h]
@[simp] theorem State.closePacket_nSamples (s : State) : s.closePacket.nSamples = s.nSamples := by
  cases h : s.packetOpen <;> simp [State.closePacket, h]
@[simp] theorem State.closePacket_cancelRequests (s : State) : s.closePacket.cancelRequests = s.cancelRequests := by
  cases h : s.packetOpen <;> simp [State.closePacket, h]
@[simp] theorem State.closePacket_out (s : State) : s.closePacket.out = s.out ++ (if s.packetOpen then [.commitPacket] else []) := by
  cases h : s.packetOpen <;> simp [State.closePacket, h]
@[simp] theorem State.closePacket_presented (s : State) : s.closePacket.presented = s.presented := by
  cases h : s.packetOpen <;> simp [State.closePacket, h]

/-! `State.cancelOpenPacket`. -/

@[simp] theorem State.cancelOpenPacket_phase (s : State) : s.cancelOpenPacket.phase = s.phase := by
  cases h : s.packetOpen <;> simp [State.cancelOpenPacket, h]
@[simp] theorem State.cancelOpenPacket_frameState (s : State) : s.cancelOpenPacket.frameState = s.frameState := by
  cases h : s.packetOpen <;> simp [State.cancelOpenPacket, h]
@[simp] theorem State.cancelOpenPacket_acc (s : State) : s.cancelOpenPacket.acc = s.acc := by
  cases h : s.packetOpen <;> simp [State.cancelOpenPacket, h]
@[simp] theorem State.cancelOpenPacket_hi (s : State) : s.cancelOpenPacket.hi = s.hi := by
  cases h : s.packetOpen <;> simp [State.cancelOpenPacket, h]
@[simp] theorem State.cancelOpenPacket_countdown (s : State) : s.cancelOpenPacket.countdown = s.countdown := by
  cases h : s.packetOpen <;> simp [State.cancelOpenPacket, h]
@[simp] theorem State.cancelOpenPacket_nbits (s : State) : s.cancelOpenPacket.nbits = s.nbits := by
  cases h : s.packetOpen <;> simp [State.cancelOpenPacket, h]
@[simp] theorem State.cancelOpenPacket_dir (s : State) : s.cancelOpenPacket.dir = s.dir := by
  cases h : s.packetOpen <;> simp [State.cancelOpenPacket, h]
@[simp] theorem State.cancelOpenPacket_respLong (s : State) : s.cancelOpenPacket.respLong = s.respLong := by
  cases h : s.packetOpen <;> simp [State.cancelOpenPacket, h]
@[simp] theorem State.cancelOpenPacket_lastHostCmd (s : State) : s.cancelOpenPacket.lastHostCmd = s.lastHostCmd := by
  cases h : s.packetOpen <;> simp [State.cancelOpenPacket, h]
@[simp] theorem State.cancelOpenPacket_lastHostCmdValid (s : State) : s.cancelOpenPacket.lastHostCmdValid = s.lastHostCmdValid := by
  cases h : s.packetOpen <;> simp [State.cancelOpenPacket, h]
@[simp] theorem State.cancelOpenPacket_cmdStartSample (s : State) : s.cancelOpenPacket.cmdStartSample = s.cmdStartSample := by
  cases h : s.packetOpen <;> simp [State.cancelOpenPacket, h]
@[simp] theorem State.cancelOpenPacket_cmdStartValid (s : State) : s.cancelOpenPacket.cmdStartValid = s.cmdStartValid := by
  cases h : s.packetOpen <;> simp [State.cancelOpenPacket, h]
@[simp] theorem State.cancelOpenPacket_dataStartSample (s : State) : s.cancelOpenPacket.dataStartSample = s.dataStartSample := by
  cases h : s.packetOpen <;> simp [State.cancelOpenPacket, h]
@[simp] theorem State.cancelOpenPacket_dataBlockStartSample (s : State) : s.cancelOpenPacket.dataBlockStartSample = s.dataBlockStartSample := by
  cases h : s.packetOpen <;> simp [State.cancelOpenPacket, h]
@[simp] theorem State.cancelOpenPacket_fieldStart (s : State) : s.cancelOpenPacket.fieldStart = s.fieldStart := by
  cases h : s.packetOpen <;> simp [State.cancelOpenPacket, h]
@[simp] theorem State.cancelOpenPacket_byteStart (s : State) : s.cancelOpenPacket.byteStart = s.byteStart := by
  cases h : s.packetOpen <;> simp [State.cancelOpenPacket, h]
@[simp] theorem State.cancelOpenPacket_dacc (s : State) : s.cancelOpenPacket.dacc = s.dacc := by
  cases h : s.packetOpen <;> simp [State.cancelOpenPacket, h]
@[simp] theorem State.cancelOpenPacket_dnb (s : State) : s.cancelOpenPacket.dnb = s.dnb := by
  cases h : s.packetOpen <;> simp [State.cancelOpenPacket, h]
@[simp] theorem State.cancelOpenPacket_unitCount (s : State) : s.cancelOpenPacket.unitCount = s.unitCount := by
  cases h : s.packetOpen <;> simp [State.cancelOpenPacket, h]
@[simp] theorem State.cancelOpenPacket_packetOpen (s : State) : s.cancelOpenPacket.packetOpen = false := by
  cases h : s.packetOpen <;> simp [State.cancelOpenPacket, h]
@[simp] theorem State.cancelOpenPacket_clk (s : State) : s.cancelOpenPacket.clk = s.clk := by
  cases h : s.packetOpen <;> simp [State.cancelOpenPacket, h]
@[simp] theorem State.cancelOpenPacket_cmd (s : State) : s.cancelOpenPacket.cmd = s.cmd := by
  cases h : s.packetOpen <;> simp [State.cancelOpenPacket, h]
@[simp] theorem State.cancelOpenPacket_dat (s : State) : s.cancelOpenPacket.dat = s.dat := by
  cases h : s.packetOpen <;> simp [State.cancelOpenPacket, h]
@[simp] theorem State.cancelOpenPacket_config (s : State) : s.cancelOpenPacket.config = s.config := by
  cases h : s.packetOpen <;> simp [State.cancelOpenPacket, h]
@[simp] theorem State.cancelOpenPacket_nSamples (s : State) : s.cancelOpenPacket.nSamples = s.nSamples := by
  cases h : s.packetOpen <;> simp [State.cancelOpenPacket, h]
@[simp] theorem State.cancelOpenPacket_cancelRequests (s : State) : s.cancelOpenPacket.cancelRequests = s.cancelRequests := by
  cases h : s.packetOpen <;> simp [State.cancelOpenPacket, h]
@[simp] theorem State.cancelOpenPacket_out (s : State) : s.cancelOpenPacket.out = s.out ++ (if s.packetOpen then [.cancelPacket] else []) := by
  cases h : s.packetOpen <;> simp [State.cancelOpenPacket, h]
@[simp] theorem State.cancelOpenPacket_presented (s : State) : s.cancelOpenPacket.presented = s.presented := by
  cases h : s.packetOpen <;> simp [State.cancelOpenPacket, h]

/-! `State.terminate`. -/

@[simp] theorem State.terminate_phase (r : Reason) (s : State) : (s.terminate r).phase = .terminated := by
  simp [State.terminate]
@[simp] theorem State.terminate_frameState (r : Reason) (s : State) : (s.terminate r).frameState = s.frameState := by
  simp [State.terminate]
@[simp] theorem State.terminate_acc (r : Reason) (s : State) : (s.terminate r).acc = s.acc := by
  simp [State.terminate]
@[simp] theorem State.terminate_hi (r : Reason) (s : State) : (s.terminate r).hi = s.hi := by
  simp [State.terminate]
@[simp] theorem State.terminate_countdown (r : Reason) (s : State) : (s.terminate r).countdown = s.countdown := by
  simp [State.terminate]
@[simp] theorem State.terminate_nbits (r : Reason) (s : State) : (s.terminate r).nbits = s.nbits := by
  simp [State.terminate]
@[simp] theorem State.terminate_dir (r : Reason) (s : State) : (s.terminate r).dir = s.dir := by
  simp [State.terminate]
@[simp] theorem State.terminate_respLong (r : Reason) (s : State) : (s.terminate r).respLong = s.respLong := by
  simp [State.terminate]
@[simp] theorem State.terminate_lastHostCmd (r : Reason) (s : State) : (s.terminate r).lastHostCmd = s.lastHostCmd := by
  simp [State.terminate]
@[simp] theorem State.terminate_lastHostCmdValid (r : Reason) (s : State) : (s.terminate r).lastHostCmdValid = s.lastHostCmdValid := by
  simp [State.terminate]
@[simp] theorem State.terminate_cmdStartSample (r : Reason) (s : State) : (s.terminate r).cmdStartSample = s.cmdStartSample := by
  simp [State.terminate]
@[simp] theorem State.terminate_cmdStartValid (r : Reason) (s : State) : (s.terminate r).cmdStartValid = s.cmdStartValid := by
  simp [State.terminate]
@[simp] theorem State.terminate_dataStartSample (r : Reason) (s : State) : (s.terminate r).dataStartSample = s.dataStartSample := by
  simp [State.terminate]
@[simp] theorem State.terminate_dataBlockStartSample (r : Reason) (s : State) : (s.terminate r).dataBlockStartSample = s.dataBlockStartSample := by
  simp [State.terminate]
@[simp] theorem State.terminate_fieldStart (r : Reason) (s : State) : (s.terminate r).fieldStart = s.fieldStart := by
  simp [State.terminate]
@[simp] theorem State.terminate_byteStart (r : Reason) (s : State) : (s.terminate r).byteStart = s.byteStart := by
  simp [State.terminate]
@[simp] theorem State.terminate_dacc (r : Reason) (s : State) : (s.terminate r).dacc = s.dacc := by
  simp [State.terminate]
@[simp] theorem State.terminate_dnb (r : Reason) (s : State) : (s.terminate r).dnb = s.dnb := by
  simp [State.terminate]
@[simp] theorem State.terminate_unitCount (r : Reason) (s : State) : (s.terminate r).unitCount = s.unitCount := by
  simp [State.terminate]
@[simp] theorem State.terminate_packetOpen (r : Reason) (s : State) : (s.terminate r).packetOpen = false := by
  simp [State.terminate]
@[simp] theorem State.terminate_clk (r : Reason) (s : State) : (s.terminate r).clk = s.clk := by
  simp [State.terminate]
@[simp] theorem State.terminate_cmd (r : Reason) (s : State) : (s.terminate r).cmd = s.cmd := by
  simp [State.terminate]
@[simp] theorem State.terminate_dat (r : Reason) (s : State) : (s.terminate r).dat = s.dat := by
  simp [State.terminate]
@[simp] theorem State.terminate_config (r : Reason) (s : State) : (s.terminate r).config = s.config := by
  simp [State.terminate]
@[simp] theorem State.terminate_nSamples (r : Reason) (s : State) : (s.terminate r).nSamples = s.nSamples := by
  simp [State.terminate]
@[simp] theorem State.terminate_cancelRequests (r : Reason) (s : State) : (s.terminate r).cancelRequests = s.cancelRequests := by
  simp [State.terminate]
@[simp] theorem State.terminate_out (r : Reason) (s : State) : (s.terminate r).out = s.out ++ (if s.packetOpen then [.cancelPacket] else []) ++ [.terminated r] := by
  simp [State.terminate]
@[simp] theorem State.terminate_presented (r : Reason) (s : State) : (s.terminate r).presented = s.presented := by
  simp [State.terminate]

/-! `State.remember`: only the host-command registers and the response length. -/

@[simp] theorem State.remember_phase (cls : FrameClass) (v : BitVec 6) (s : State) :
    (s.remember cls v).phase = s.phase := by
  cases cls <;> rfl
@[simp] theorem State.remember_frameState (cls : FrameClass) (v : BitVec 6) (s : State) :
    (s.remember cls v).frameState = s.frameState := by
  cases cls <;> rfl
@[simp] theorem State.remember_acc (cls : FrameClass) (v : BitVec 6) (s : State) :
    (s.remember cls v).acc = s.acc := by
  cases cls <;> rfl
@[simp] theorem State.remember_hi (cls : FrameClass) (v : BitVec 6) (s : State) :
    (s.remember cls v).hi = s.hi := by
  cases cls <;> rfl
@[simp] theorem State.remember_countdown (cls : FrameClass) (v : BitVec 6) (s : State) :
    (s.remember cls v).countdown = s.countdown := by
  cases cls <;> rfl
@[simp] theorem State.remember_nbits (cls : FrameClass) (v : BitVec 6) (s : State) :
    (s.remember cls v).nbits = s.nbits := by
  cases cls <;> rfl
@[simp] theorem State.remember_dir (cls : FrameClass) (v : BitVec 6) (s : State) :
    (s.remember cls v).dir = s.dir := by
  cases cls <;> rfl
@[simp] theorem State.remember_cmdStartSample (cls : FrameClass) (v : BitVec 6) (s : State) :
    (s.remember cls v).cmdStartSample = s.cmdStartSample := by
  cases cls <;> rfl
@[simp] theorem State.remember_cmdStartValid (cls : FrameClass) (v : BitVec 6) (s : State) :
    (s.remember cls v).cmdStartValid = s.cmdStartValid := by
  cases cls <;> rfl
@[simp] theorem State.remember_dataStartSample (cls : FrameClass) (v : BitVec 6) (s : State) :
    (s.remember cls v).dataStartSample = s.dataStartSample := by
  cases cls <;> rfl
@[simp] theorem State.remember_dataBlockStartSample (cls : FrameClass) (v : BitVec 6) (s : State) :
    (s.remember cls v).dataBlockStartSample = s.dataBlockStartSample := by
  cases cls <;> rfl
@[simp] theorem State.remember_fieldStart (cls : FrameClass) (v : BitVec 6) (s : State) :
    (s.remember cls v).fieldStart = s.fieldStart := by
  cases cls <;> rfl
@[simp] theorem State.remember_byteStart (cls : FrameClass) (v : BitVec 6) (s : State) :
    (s.remember cls v).byteStart = s.byteStart := by
  cases cls <;> rfl
@[simp] theorem State.remember_dacc (cls : FrameClass) (v : BitVec 6) (s : State) :
    (s.remember cls v).dacc = s.dacc := by
  cases cls <;> rfl
@[simp] theorem State.remember_dnb (cls : FrameClass) (v : BitVec 6) (s : State) :
    (s.remember cls v).dnb = s.dnb := by
  cases cls <;> rfl
@[simp] theorem State.remember_unitCount (cls : FrameClass) (v : BitVec 6) (s : State) :
    (s.remember cls v).unitCount = s.unitCount := by
  cases cls <;> rfl
@[simp] theorem State.remember_packetOpen (cls : FrameClass) (v : BitVec 6) (s : State) :
    (s.remember cls v).packetOpen = s.packetOpen := by
  cases cls <;> rfl
@[simp] theorem State.remember_clk (cls : FrameClass) (v : BitVec 6) (s : State) :
    (s.remember cls v).clk = s.clk := by
  cases cls <;> rfl
@[simp] theorem State.remember_cmd (cls : FrameClass) (v : BitVec 6) (s : State) :
    (s.remember cls v).cmd = s.cmd := by
  cases cls <;> rfl
@[simp] theorem State.remember_dat (cls : FrameClass) (v : BitVec 6) (s : State) :
    (s.remember cls v).dat = s.dat := by
  cases cls <;> rfl
@[simp] theorem State.remember_config (cls : FrameClass) (v : BitVec 6) (s : State) :
    (s.remember cls v).config = s.config := by
  cases cls <;> rfl
@[simp] theorem State.remember_nSamples (cls : FrameClass) (v : BitVec 6) (s : State) :
    (s.remember cls v).nSamples = s.nSamples := by
  cases cls <;> rfl
@[simp] theorem State.remember_cancelRequests (cls : FrameClass) (v : BitVec 6) (s : State) :
    (s.remember cls v).cancelRequests = s.cancelRequests := by
  cases cls <;> rfl
@[simp] theorem State.remember_out (cls : FrameClass) (v : BitVec 6) (s : State) :
    (s.remember cls v).out = s.out := by
  cases cls <;> rfl
@[simp] theorem State.remember_presented (cls : FrameClass) (v : BitVec 6) (s : State) :
    (s.remember cls v).presented = s.presented := by
  cases cls <;> rfl

end Sys2Proof.Machine
end

