-- ==== Sys2Proof/Laws/Ops.lean ====
section
/-! SUPPORT. What each cursor operation can do, said once: when it answers, with what, and what it leaves unchanged
(R66 to R73); and the same of the operations on the machine's cursors and of the sequencing of operations. -/

namespace Sys2Proof.Machine

open Sys2Proof

/-! Cursors. -/

@[simp] theorem Cursor.mem_ahead {c : Cursor} {p : Nat} : p ∈ c.ahead ↔ p ∈ c.line.edges ∧ c.pos < p := by
  simp [Cursor.ahead]

theorem Cursor.pos_lt_of_ahead {c : Cursor} {q : Nat} {qs : List Nat} (h : c.ahead = q :: qs) :
    c.pos < q :=
  (Cursor.mem_ahead.1 (h ▸ List.mem_cons_self)).2

theorem Cursor.hasMore_iff {c : Cursor} : c.hasMore = true ↔ c.ahead ≠ [] := by
  simp [Cursor.hasMore]

theorem Cursor.peek_ok {c : Cursor} {q : Nat} : c.peek = .ok q ↔ ∃ qs, c.ahead = q :: qs := by
  unfold Cursor.peek
  cases h : c.ahead <;> simp [eq_comm]

theorem Cursor.peek_error {c : Cursor} {x : Signal} : c.peek = .error x ↔ c.ahead = [] ∧ x = .endOfStream := by
  unfold Cursor.peek
  cases h : c.ahead <;> simp [eq_comm]

theorem Cursor.nextEdge_ok {c d : Cursor} :
    c.nextEdge = .ok d ↔ ∃ q qs, c.ahead = q :: qs ∧ d = { c with pos := q, level := !c.level } := by
  unfold Cursor.nextEdge
  cases h : c.ahead with
  | nil => simp
  | cons q qs => simp [eq_comm]

theorem Cursor.nextEdge_error {c : Cursor} {x : Signal} :
    c.nextEdge = .error x ↔ c.ahead = [] ∧ x = .endOfStream := by
  unfold Cursor.nextEdge
  cases h : c.ahead <;> simp [eq_comm]

theorem Cursor.toAbs_ok {n : Nat} {p : Nat} {c d : Cursor} :
    c.toAbs n p = .ok d ↔
      c.pos ≤ p ∧ p < n ∧
        d = { c with pos := p, level := toggled c.level (c.ahead.filter (· ≤ p)).length } := by
  unfold Cursor.toAbs
  split
  · constructor
    · intro h; cases h
    · rintro ⟨h, -, -⟩; omega
  · split
    · constructor
      · intro h; cases h
      · rintro ⟨-, h, -⟩; omega
    · constructor
      · intro h; cases h; exact ⟨by omega, by omega, rfl⟩
      · rintro ⟨-, -, rfl⟩; rfl

theorem Cursor.toAbs_error {n : Nat} {p : Nat} {c : Cursor} {x : Signal} :
    c.toAbs n p = .error x ↔
      (p < c.pos ∧ x = .outOfOrderSeek) ∨ (c.pos ≤ p ∧ n ≤ p ∧ x = .endOfStream) := by
  unfold Cursor.toAbs
  split
  · constructor
    · intro h; cases h; exact .inl ⟨by assumption, rfl⟩
    · rintro (⟨-, rfl⟩ | ⟨h, -, -⟩)
      · rfl
      · omega
  · split
    · constructor
      · intro h; cases h; exact .inr ⟨by omega, by assumption, rfl⟩
      · rintro (⟨h, -⟩ | ⟨-, -, rfl⟩)
        · omega
        · rfl
    · constructor
      · intro h; cases h
      · rintro (⟨h, -⟩ | ⟨-, h, -⟩) <;> omega

/-- A cursor operation never changes the line it reads (R38, R41 (c)). -/
theorem Cursor.nextEdge_line {c d : Cursor} (h : c.nextEdge = .ok d) : d.line = c.line := by
  obtain ⟨q, qs, -, rfl⟩ := Cursor.nextEdge_ok.1 h; rfl

theorem Cursor.toAbs_line {n : Nat} {p : Nat} {c d : Cursor} (h : c.toAbs n p = .ok d) : d.line = c.line := by
  obtain ⟨-, -, rfl⟩ := Cursor.toAbs_ok.1 h; rfl

theorem Cursor.toAbs_pos {n : Nat} {p : Nat} {c d : Cursor} (h : c.toAbs n p = .ok d) : d.pos = p := by
  obtain ⟨-, -, rfl⟩ := Cursor.toAbs_ok.1 h; rfl

/-- Cursors never move backward (R73). -/
theorem Cursor.nextEdge_pos_lt {c d : Cursor} (h : c.nextEdge = .ok d) : c.pos < d.pos := by
  obtain ⟨q, qs, hq, rfl⟩ := Cursor.nextEdge_ok.1 h
  exact Cursor.pos_lt_of_ahead hq

/-! Data lines. -/

@[simp] theorem DataSet.toList_map {α β : Type} (f : α → β) (d : DataSet α) :
    (d.map f).toList = d.toList.map f := by
  cases d <;> rfl

@[simp] theorem DataSet.count_eq_length {α : Type} (d : DataSet α) : d.toList.length = d.count := by
  cases d <;> rfl

/-- Every line of a data-line loop keeps what each single operation keeps, whether or not one of them signals. -/
theorem DataSet.each_map {β : Type} (g : Cursor → β) {f : Cursor → Except Signal Cursor}
    (hf : ∀ c d, f c = .ok d → g d = g c) (d : DataSet Cursor) : (d.each f).1.map g = d.map g := by
  cases d with
  | absent => rfl
  | one d0 =>
    simp only [DataSet.each]
    split
    · rfl
    · next h => simp [DataSet.map, hf _ _ h]
  | four d0 d1 d2 d3 =>
    simp only [DataSet.each]
    split
    · rfl
    · next h0 =>
      split
      · simp [DataSet.map, hf _ _ h0]
      · next h1 =>
        split
        · simp [DataSet.map, hf _ _ h0, hf _ _ h1]
        · next h2 =>
          split
          · simp [DataSet.map, hf _ _ h0, hf _ _ h1, hf _ _ h2]
          · next h3 => simp [DataSet.map, hf _ _ h0, hf _ _ h1, hf _ _ h2, hf _ _ h3]

/-- A data-line loop that does not signal has performed its operation on every line. -/
theorem DataSet.each_ok {f : Cursor → Except Signal Cursor} {d e : DataSet Cursor} :
    d.each f = (e, none) ↔
      match d with
      | .absent => e = .absent
      | .one d0 => ∃ e0, f d0 = .ok e0 ∧ e = .one e0
      | .four d0 d1 d2 d3 =>
        ∃ e0 e1 e2 e3, f d0 = .ok e0 ∧ f d1 = .ok e1 ∧ f d2 = .ok e2 ∧ f d3 = .ok e3 ∧ e = .four e0 e1 e2 e3 := by
  cases d with
  | absent => simp [DataSet.each, eq_comm]
  | one d0 => simp only [DataSet.each]; cases f d0 <;> simp [eq_comm]
  | four d0 d1 d2 d3 =>
    simp only [DataSet.each]
    cases f d0 <;> cases f d1 <;> cases f d2 <;> cases f d3 <;> simp [eq_comm]

/-- A data-line loop that signals does so because one of its lines does. -/
theorem DataSet.each_signal {f : Cursor → Except Signal Cursor} {d e : DataSet Cursor} {x : Signal}
    (h : d.each f = (e, some x)) : ∃ c ∈ d.toList, f c = .error x := by
  cases d with
  | absent => simp [DataSet.each] at h
  | one d0 =>
    simp only [DataSet.each] at h
    cases h0 : f d0 <;> simp [h0] at h
    exact ⟨d0, by simp [DataSet.toList], by rw [h0, h.2]⟩
  | four d0 d1 d2 d3 =>
    simp only [DataSet.each] at h
    cases h0 : f d0 <;> simp only [h0] at h
    · cases h; exact ⟨d0, by simp [DataSet.toList], h0⟩
    · cases h1 : f d1 <;> simp only [h1] at h
      · cases h; exact ⟨d1, by simp [DataSet.toList], h1⟩
      · cases h2 : f d2 <;> simp only [h2] at h
        · cases h; exact ⟨d2, by simp [DataSet.toList], h2⟩
        · cases h3 : f d3 <;> simp only [h3] at h
          · cases h; exact ⟨d3, by simp [DataSet.toList], h3⟩
          · cases h

/-! Sequencing. -/

@[simp] theorem Res.andThen_of_ok {α β : Type} (a : α) (s : State) (f : α → State → Res β) :
    (Res.ok a s).andThen f = f a s := rfl

@[simp] theorem Res.andThen_of_signal {α β : Type} (x : Signal) (s : State) (f : α → State → Res β) :
    (Res.signal x s : Res α).andThen f = .signal x s := rfl

theorem Res.andThen_ok {α β : Type} {r : Res α} {f : α → State → Res β} {b : β} {t : State} :
    r.andThen f = .ok b t ↔ ∃ a u, r = .ok a u ∧ f a u = .ok b t := by
  cases r <;> simp [Res.andThen]

theorem Res.andThen_signal {α β : Type} {r : Res α} {f : α → State → Res β} {x : Signal} {t : State} :
    r.andThen f = .signal x t ↔ r = .signal x t ∨ ∃ a u, r = .ok a u ∧ f a u = .signal x t := by
  cases r <;> simp [Res.andThen]

@[simp] theorem Res.orTerminate_of_ok {α : Type} (a : α) (s : State) (f : α → State → State) :
    (Res.ok a s).orTerminate f = f a s := rfl

@[simp] theorem Res.orTerminate_of_signal {α : Type} (x : Signal) (s : State) (f : α → State → State) :
    (Res.signal x s : Res α).orTerminate f = s.terminate x.reason := rfl

/-! The machine's cursors. -/

theorem State.clkNextEdge_ok {s t : State} {u : Unit} :
    s.clkNextEdge = .ok u t ↔ ∃ c, s.clk.nextEdge = .ok c ∧ t = { s with clk := c } := by
  unfold State.clkNextEdge
  cases h : s.clk.nextEdge <;> simp [eq_comm]

theorem State.clkNextEdge_signal {s t : State} {x : Signal} :
    s.clkNextEdge = .signal x t ↔ s.clk.nextEdge = .error x ∧ t = s := by
  unfold State.clkNextEdge
  cases h : s.clk.nextEdge <;> simp [eq_comm]

theorem State.clkTo_ok {s t : State} {p : Nat} {u : Unit} :
    s.clkTo p = .ok u t ↔ ∃ c, s.clk.toAbs s.nSamples p = .ok c ∧ t = { s with clk := c } := by
  unfold State.clkTo
  cases h : s.clk.toAbs s.nSamples p <;> simp [eq_comm]

theorem State.clkTo_signal {s t : State} {p : Nat} {x : Signal} :
    s.clkTo p = .signal x t ↔ s.clk.toAbs s.nSamples p = .error x ∧ t = s := by
  unfold State.clkTo
  cases h : s.clk.toAbs s.nSamples p <;> simp [eq_comm]

theorem State.clkPeek_ok {s t : State} {q : Nat} : s.clkPeek = .ok q t ↔ s.clk.peek = .ok q ∧ t = s := by
  unfold State.clkPeek
  cases h : s.clk.peek <;> simp [eq_comm]

theorem State.clkPeek_signal {s t : State} {x : Signal} : s.clkPeek = .signal x t ↔ s.clk.peek = .error x ∧ t = s := by
  unfold State.clkPeek
  cases h : s.clk.peek <;> simp [eq_comm]

theorem State.cmdNextEdge_ok {s t : State} {u : Unit} :
    s.cmdNextEdge = .ok u t ↔ ∃ c, s.cmd.nextEdge = .ok c ∧ t = { s with cmd := c } := by
  unfold State.cmdNextEdge
  cases h : s.cmd.nextEdge <;> simp [eq_comm]

theorem State.cmdNextEdge_signal {s t : State} {x : Signal} :
    s.cmdNextEdge = .signal x t ↔ s.cmd.nextEdge = .error x ∧ t = s := by
  unfold State.cmdNextEdge
  cases h : s.cmd.nextEdge <;> simp [eq_comm]

theorem State.cmdTo_ok {s t : State} {p : Nat} {u : Unit} :
    s.cmdTo p = .ok u t ↔ ∃ c, s.cmd.toAbs s.nSamples p = .ok c ∧ t = { s with cmd := c } := by
  unfold State.cmdTo
  cases h : s.cmd.toAbs s.nSamples p <;> simp [eq_comm]

theorem State.cmdTo_signal {s t : State} {p : Nat} {x : Signal} :
    s.cmdTo p = .signal x t ↔ s.cmd.toAbs s.nSamples p = .error x ∧ t = s := by
  unfold State.cmdTo
  cases h : s.cmd.toAbs s.nSamples p <;> simp [eq_comm]

theorem State.cmdPeek_ok {s t : State} {q : Nat} : s.cmdPeek = .ok q t ↔ s.cmd.peek = .ok q ∧ t = s := by
  unfold State.cmdPeek
  cases h : s.cmd.peek <;> simp [eq_comm]

theorem State.cmdPeek_signal {s t : State} {x : Signal} : s.cmdPeek = .signal x t ↔ s.cmd.peek = .error x ∧ t = s := by
  unfold State.cmdPeek
  cases h : s.cmd.peek <;> simp [eq_comm]

theorem State.datTo_ok {s t : State} {p : Nat} {u : Unit} :
    s.datTo p = .ok u t ↔ ∃ d, s.dat.each (Cursor.toAbs s.nSamples p) = (d, none) ∧ t = { s with dat := d } := by
  unfold State.datTo
  rcases h : s.dat.each (Cursor.toAbs s.nSamples p) with ⟨d, _ | y⟩ <;> simp [eq_comm]

theorem State.datTo_signal {s t : State} {p : Nat} {x : Signal} :
    s.datTo p = .signal x t ↔ ∃ d, s.dat.each (Cursor.toAbs s.nSamples p) = (d, some x) ∧ t = { s with dat := d } := by
  unfold State.datTo
  rcases h : s.dat.each (Cursor.toAbs s.nSamples p) with ⟨d, _ | y⟩ <;> simp [eq_comm]

/-- After a realignment every active data cursor stands at its target (R36, R42). -/
theorem State.datTo_pos {s t : State} {p : Nat} {u : Unit} (h : s.datTo p = .ok u t) :
    ∀ d ∈ t.dat.toList, d.pos = p := by
  obtain ⟨d, hd, rfl⟩ := State.datTo_ok.1 h
  rw [DataSet.each_ok] at hd
  revert hd
  cases s.dat with
  | absent => rintro rfl; simp [DataSet.toList]
  | one d0 =>
    rintro ⟨e0, h0, rfl⟩
    simpa [DataSet.toList] using Cursor.toAbs_pos h0
  | four d0 d1 d2 d3 =>
    rintro ⟨e0, e1, e2, e3, h0, h1, h2, h3, rfl⟩
    simp [DataSet.toList, Cursor.toAbs_pos h0, Cursor.toAbs_pos h1, Cursor.toAbs_pos h2, Cursor.toAbs_pos h3]

end Sys2Proof.Machine
end

