-- ==== Sys2Proof/Laws/Memory.lean ====
section
/-! SUPPORT. The lines are read-only (R34, R41 (c), R43): every operation that touches a cursor or the output leaves the
lines and the length of the capture as they are, and with them the canonical form of R31. -/

namespace Sys2Proof.Machine

open Sys2Proof

/-- The canonical form is a property of the lines and the length of the capture alone. -/
theorem State.linesWf_of_lines_eq {s t : State} (h : t.lines = s.lines) (hn : t.nSamples = s.nSamples) :
    t.linesWf = s.linesWf := by
  simp only [State.lines, Prod.mk.injEq] at h
  obtain ⟨h1, h2, h3⟩ := h
  have h4 : t.dat.toList.map (·.line) = s.dat.toList.map (·.line) := by
    rw [← DataSet.toList_map, ← DataSet.toList_map, h3]
  have h5 : ∀ l : List Cursor, l.all (fun d => d.line.wf s.nSamples) = (l.map (·.line)).all (Line.wf s.nSamples) := by
    intro l; rw [List.all_map]; rfl
  simp only [State.linesWf, h1, h2, hn, h5, h4]

theorem State.clkNextEdge_lines {s t : State} {u : Unit} (h : s.clkNextEdge = .ok u t) :
    t.lines = s.lines ∧ t.nSamples = s.nSamples := by
  obtain ⟨c, hc, rfl⟩ := State.clkNextEdge_ok.1 h
  simp [State.lines, Cursor.nextEdge_line hc]

theorem State.clkTo_lines {s t : State} {p : Nat} {u : Unit} (h : s.clkTo p = .ok u t) :
    t.lines = s.lines ∧ t.nSamples = s.nSamples := by
  obtain ⟨c, hc, rfl⟩ := State.clkTo_ok.1 h
  simp [State.lines, Cursor.toAbs_line hc]

theorem State.cmdNextEdge_lines {s t : State} {u : Unit} (h : s.cmdNextEdge = .ok u t) :
    t.lines = s.lines ∧ t.nSamples = s.nSamples := by
  obtain ⟨c, hc, rfl⟩ := State.cmdNextEdge_ok.1 h
  simp [State.lines, Cursor.nextEdge_line hc]

theorem State.cmdTo_lines {s t : State} {p : Nat} {u : Unit} (h : s.cmdTo p = .ok u t) :
    t.lines = s.lines ∧ t.nSamples = s.nSamples := by
  obtain ⟨c, hc, rfl⟩ := State.cmdTo_ok.1 h
  simp [State.lines, Cursor.toAbs_line hc]

theorem DataSet.each_toAbs_lines (n p : Nat) (d : DataSet Cursor) :
    (d.each (Cursor.toAbs n p)).1.map (·.line) = d.map (·.line) :=
  DataSet.each_map (·.line) (fun _ _ h => Cursor.toAbs_line h) d

/-- A realignment leaves the lines as they are, whether or not it signals part way (R41 (a)). -/
theorem State.datTo_lines (p : Nat) (s : State) :
    (s.datTo p).state.lines = s.lines ∧ (s.datTo p).state.nSamples = s.nSamples := by
  have h := DataSet.each_toAbs_lines s.nSamples p s.dat
  unfold State.datTo
  rcases hd : s.dat.each (Cursor.toAbs s.nSamples p) with ⟨d, _ | y⟩ <;> rw [hd] at h <;>
    simpa [Res.state, State.lines] using h

theorem State.emit_lines (e : Event) (s : State) : (s.emit e).lines = s.lines := rfl

theorem State.addFrame_lines (f : Frame) (s : State) : (s.addFrame f).lines = s.lines := rfl

theorem State.commitPacket_lines (s : State) : s.commitPacket.lines = s.lines := rfl

theorem State.cancelPacket_lines (s : State) : s.cancelPacket.lines = s.lines := rfl

theorem State.closePacket_lines (s : State) : s.closePacket.lines = s.lines := by
  unfold State.closePacket; split <;> rfl

theorem State.marker_lines (p : Nat) (k : MarkerKind) (c : Channel) (s : State) : (s.marker p k c).lines = s.lines := rfl

theorem State.progress_lines (s : State) : s.progress.lines = s.lines := rfl

theorem State.terminate_lines (r : Reason) (s : State) : (s.terminate r).lines = s.lines := by
  unfold State.terminate State.cancelOpenPacket; split <;> rfl

theorem State.clkNextEdge_linesWf {s t : State} {u : Unit} (h : s.clkNextEdge = .ok u t) : t.linesWf = s.linesWf :=
  State.linesWf_of_lines_eq (State.clkNextEdge_lines h).1 (State.clkNextEdge_lines h).2

theorem State.clkTo_linesWf {s t : State} {p : Nat} {u : Unit} (h : s.clkTo p = .ok u t) : t.linesWf = s.linesWf :=
  State.linesWf_of_lines_eq (State.clkTo_lines h).1 (State.clkTo_lines h).2

theorem State.cmdNextEdge_linesWf {s t : State} {u : Unit} (h : s.cmdNextEdge = .ok u t) : t.linesWf = s.linesWf :=
  State.linesWf_of_lines_eq (State.cmdNextEdge_lines h).1 (State.cmdNextEdge_lines h).2

theorem State.cmdTo_linesWf {s t : State} {p : Nat} {u : Unit} (h : s.cmdTo p = .ok u t) : t.linesWf = s.linesWf :=
  State.linesWf_of_lines_eq (State.cmdTo_lines h).1 (State.cmdTo_lines h).2

theorem State.datTo_linesWf (p : Nat) (s : State) : (s.datTo p).state.linesWf = s.linesWf :=
  State.linesWf_of_lines_eq (State.datTo_lines p s).1 (State.datTo_lines p s).2

theorem State.terminate_linesWf (r : Reason) (s : State) : (s.terminate r).linesWf = s.linesWf :=
  State.linesWf_of_lines_eq (State.terminate_lines r s)
    (by unfold State.terminate State.cancelOpenPacket; split <;> rfl)

/-- The lines of the reset state are in canonical form. -/
theorem State.reset_linesWf : State.reset.linesWf = true := by decide +kernel

end Sys2Proof.Machine
end

