-- ==== Sys2Proof/Laws/Cycles.lean ====
section
/-! SUPPORT. What each larger operation can do, said once: the bus cycle (R95, R96), the per-bit step (R88), the alignment
(R82), LOCATE (R74), ARBITRATE (R80) and the exchange of a presented frame. Each lemma says which fields an operation can
change. -/

namespace Sys2Proof.Machine

open Sys2Proof

/-- A cursor that moved forward along the line it was on. -/
def Cursor.Moved (c d : Cursor) : Prop := d.line = c.line ∧ c.pos ≤ d.pos

theorem Cursor.Moved.refl (c : Cursor) : c.Moved c := ⟨rfl, le_rfl⟩

theorem Cursor.Moved.trans {c d e : Cursor} (h : c.Moved d) (g : d.Moved e) : c.Moved e :=
  ⟨g.1.trans h.1, h.2.trans g.2⟩

theorem Cursor.moved_of_nextEdge {c d : Cursor} (h : c.nextEdge = .ok d) : c.Moved d :=
  ⟨Cursor.nextEdge_line h, (Cursor.nextEdge_pos_lt h).le⟩

theorem Cursor.moved_of_toAbs {n p : Nat} {c d : Cursor} (h : c.toAbs n p = .ok d) : c.Moved d :=
  ⟨Cursor.toAbs_line h, (Cursor.toAbs_pos h).symm ▸ (Cursor.toAbs_ok.1 h).1⟩

/-- The clock at a midpoint: the lines aligned to it and read (the part R95 and R96 share). -/
theorem State.sampleHere_ok {s t : State} {r : Cycle} :
    s.sampleHere = .ok r t ↔
      ∃ m d q, s.cmd.toAbs s.nSamples s.clk.pos = .ok m ∧
        s.dat.each (Cursor.toAbs s.nSamples s.clk.pos) = (d, none) ∧ s.clk.peek = .ok q ∧
        r = { mid := s.clk.pos, cycleEnd := q, bit := m.level } ∧
        t = { s with cmd := m, dat := d, out := s.out ++ [.marker s.clk.pos .sampleEdge .clk] } := by
  simp only [State.sampleHere, Res.andThen_ok, State.cmdTo_ok, State.datTo_ok, State.clkPeek_ok]
  constructor
  · rintro ⟨_, _, ⟨m, hm, rfl⟩, _, _, ⟨d, hd, rfl⟩, q, _, ⟨hq, rfl⟩, h⟩
    cases h
    exact ⟨m, d, q, hm, hd, hq, rfl, rfl⟩
  · rintro ⟨m, d, q, hm, hd, hq, rfl, rfl⟩
    exact ⟨(), _, ⟨m, hm, rfl⟩, (), _, ⟨d, hd, rfl⟩, q, _, ⟨hq, rfl⟩, rfl⟩

theorem State.toBoundary_ok {s t : State} {u : Unit} :
    s.toBoundary = .ok u t ↔
      if s.clk.level = s.midLevel then ∃ c, s.clk.nextEdge = .ok c ∧ t = { s with clk := c } else t = s := by
  unfold State.toBoundary
  split
  · exact State.clkNextEdge_ok
  · simp [eq_comm]

/-- A bus cycle that completes: where the three cursors stand after it, and its result (R95). -/
theorem State.cycle_ok {s t : State} {r : Cycle} :
    s.cycle = .ok r t ↔
      ∃ b c m d q, (if s.clk.level = s.midLevel then s.clk.nextEdge = .ok b else b = s.clk) ∧
        b.nextEdge = .ok c ∧ s.cmd.toAbs s.nSamples c.pos = .ok m ∧
        s.dat.each (Cursor.toAbs s.nSamples c.pos) = (d, none) ∧ c.peek = .ok q ∧
        r = { mid := c.pos, cycleEnd := q, bit := m.level } ∧
        t = { s with clk := c, cmd := m, dat := d, out := s.out ++ [.marker c.pos .sampleEdge .clk] } := by
  simp only [State.cycle, Res.andThen_ok, State.toBoundary_ok, State.clkNextEdge_ok, State.sampleHere_ok]
  by_cases hl : s.clk.level = s.midLevel
  · simp only [if_pos hl]
    constructor
    · rintro ⟨_, _, ⟨b, hb, rfl⟩, _, _, ⟨c, hc, rfl⟩, m, d, q, hm, hd, hq, rfl, rfl⟩
      exact ⟨b, c, m, d, q, hb, hc, hm, hd, hq, rfl, rfl⟩
    · rintro ⟨b, c, m, d, q, hb, hc, hm, hd, hq, rfl, rfl⟩
      exact ⟨(), _, ⟨b, hb, rfl⟩, (), _, ⟨c, hc, rfl⟩, m, d, q, hm, hd, hq, rfl, rfl⟩
  · simp only [if_neg hl]
    constructor
    · rintro ⟨_, _, rfl, _, _, ⟨c, hc, rfl⟩, m, d, q, hm, hd, hq, rfl, rfl⟩
      exact ⟨_, c, m, d, q, rfl, hc, hm, hd, hq, rfl, rfl⟩
    · rintro ⟨_, c, m, d, q, rfl, hc, hm, hd, hq, rfl, rfl⟩
      exact ⟨(), _, rfl, (), _, ⟨c, hc, rfl⟩, m, d, q, hm, hd, hq, rfl, rfl⟩

/-- The three cases of START_CYCLE (R96). -/
theorem State.startCycle_ok_cases {s t : State} {r : Cycle} (h : s.startCycle = .ok r t) :
    (s.clk.pos < s.cmdStartSample ∧ ∃ c, s.clk.toAbs s.nSamples s.cmdStartSample = .ok c ∧
        ({ s with clk := c } : State).cycle = .ok r t) ∨
      (s.cmdStartSample ≤ s.clk.pos ∧ s.clk.level = s.midLevel ∧ s.sampleHere = .ok r t) ∨
      (s.cmdStartSample ≤ s.clk.pos ∧ s.clk.level ≠ s.midLevel ∧ s.cycle = .ok r t) := by
  unfold State.startCycle at h
  split at h
  · obtain ⟨_, _, h1, h2⟩ := Res.andThen_ok.1 h
    obtain ⟨c, hc, rfl⟩ := State.clkTo_ok.1 h1
    exact .inl ⟨by assumption, c, hc, h2⟩
  · split at h
    · exact .inr (.inl ⟨by omega, by assumption, h⟩)
    · exact .inr (.inr ⟨by omega, by assumption, h⟩)

/-- The per-bit step that completes: the packing, then the boundary edge, then the next sampling edge (R88). -/
theorem State.bitStep_ok {src : Option Byte} {s t : State} {boundary : Nat} :
    s.bitStep src = .ok boundary t ↔
      ∃ b c d, s.clk.nextEdge = .ok b ∧ b.nextEdge = .ok c ∧
        (s.packGroup src).dat.each (Cursor.toAbs s.nSamples c.pos) = (d, none) ∧ boundary = b.pos ∧
        t = { s.packGroup src with clk := c, dat := d, out := s.out ++ [.marker s.clk.pos .sampleEdge .clk] } := by
  have hp : ∀ e, (s.emit e).packGroup src = { s.packGroup src with out := s.out ++ [e] } := by
    intro e
    unfold State.packGroup State.emit
    split <;> simp_all
  have hclk : (s.packGroup src).clk = s.clk := by unfold State.packGroup; split <;> rfl
  have hn : (s.packGroup src).nSamples = s.nSamples := by unfold State.packGroup; split <;> rfl
  simp only [State.bitStep, State.marker, hp, Res.andThen_ok, State.clkNextEdge_ok, State.datTo_ok, hclk, hn]
  constructor
  · rintro ⟨_, _, ⟨b, hb, rfl⟩, _, _, ⟨c, hc, rfl⟩, _, _, ⟨d, hd, rfl⟩, h⟩
    cases h
    exact ⟨b, c, d, hb, hc, hd, rfl, rfl⟩
  · rintro ⟨b, c, d, hb, hc, hd, rfl, rfl⟩
    exact ⟨(), _, ⟨b, hb, rfl⟩, (), _, ⟨c, hc, rfl⟩, (), _, ⟨d, hd, rfl⟩, rfl⟩

theorem State.fixSamplingEdge_ok {s t : State} {u : Unit} :
    s.fixSamplingEdge = .ok u t ↔
      if s.clk.level = s.sampleLevel then t = s else ∃ c, s.clk.nextEdge = .ok c ∧ t = { s with clk := c } := by
  unfold State.fixSamplingEdge
  split
  · simp [eq_comm]
  · exact State.clkNextEdge_ok

/-- The alignment of the clock: two edges, then a third only if needed (R82). -/
theorem State.alignClock_ok {s t : State} {u : Unit} :
    s.alignClock = .ok u t ↔
      ∃ a b c, s.clk.nextEdge = .ok a ∧ a.nextEdge = .ok b ∧
        (if b.level = s.sampleLevel then c = b else b.nextEdge = .ok c) ∧ t = { s with clk := c } := by
  simp only [State.alignClock, Config.DATA_ALIGN_MODE, Res.andThen_ok, State.clkNextEdge_ok, State.fixSamplingEdge_ok]
  constructor
  · rintro ⟨_, _, ⟨a, ha, rfl⟩, _, _, ⟨b, hb, rfl⟩, h⟩
    by_cases hl : b.level = s.sampleLevel
    · refine ⟨a, b, b, ha, hb, by rw [if_pos hl], ?_⟩
      exact (if_pos (c := b.level = s.sampleLevel) hl ▸ h :)
    · have h' := (if_neg (c := b.level = s.sampleLevel) hl ▸ h :)
      obtain ⟨c, hc, rfl⟩ := h'
      exact ⟨a, b, c, ha, hb, by rw [if_neg hl]; exact hc, rfl⟩
  · rintro ⟨a, b, c, ha, hb, hc, rfl⟩
    refine ⟨(), _, ⟨a, ha, rfl⟩, (), _, ⟨b, hb, rfl⟩, ?_⟩
    by_cases hl : b.level = s.sampleLevel
    · rw [if_pos hl] at hc
      subst hc
      exact (if_pos (c := _ = _) hl).symm ▸ rfl
    · rw [if_neg hl] at hc
      exact (if_neg (c := _ = _) hl).symm ▸ ⟨c, hc, rfl⟩

/-- ALIGN_DATA that completes (R82). -/
theorem State.alignData_ok {s t : State} {u : Unit} :
    s.alignData = .ok u t ↔
      ∃ s1 s2 s3 s4 u1 u2 u3 u4, s.clkTo s.dataStartSample = .ok u1 s1 ∧
        s1.datTo s1.dataStartSample = .ok u2 s2 ∧ s2.alignClock = .ok u3 s3 ∧ s3.datTo s3.clk.pos = .ok u4 s4 ∧
        t = { s4 with dataBlockStartSample := s4.clk.pos, byteStart := s4.clk.pos, unitCount := 0 } := by
  simp only [State.alignData, Res.andThen_ok, Res.ok.injEq, true_and, eq_comm (b := t)]
  constructor
  · rintro ⟨u1, s1, h1, u2, s2, h2, u3, s3, h3, u4, s4, h4, rfl⟩
    exact ⟨s1, s2, s3, s4, u1, u2, u3, u4, h1, h2, h3, h4, rfl⟩
  · rintro ⟨s1, s2, s3, s4, u1, u2, u3, u4, h1, h2, h3, h4, rfl⟩
    exact ⟨u1, s1, h1, u2, s2, h2, u3, s3, h3, u4, s4, h4, rfl⟩

/-- LOCATE changes the command cursor and the command start registers, and nothing else (R74, R77). -/
theorem State.locatePasses_frame (fuel : Nat) (s : State) :
    ∃ m p v, (State.locatePasses fuel s).state = { s with cmd := m, cmdStartSample := p, cmdStartValid := v } ∧
      s.cmd.Moved m := by
  induction fuel generalizing s with
  | zero => exact ⟨s.cmd, s.cmdStartSample, false, rfl, .refl _⟩
  | succ fuel ih =>
    unfold State.locatePasses
    split
    · split
      · cases hc : s.cmdNextEdge with
        | signal x u =>
          obtain ⟨-, rfl⟩ := State.cmdNextEdge_signal.1 hc
          exact ⟨_, _, _, rfl, .refl _⟩
        | ok a u =>
          obtain ⟨c, hm, rfl⟩ := State.cmdNextEdge_ok.1 hc
          simp only [Res.andThen_of_ok]
          cases hp : ({ s with cmd := c } : State).cmdPeek with
          | signal x u =>
            obtain ⟨-, rfl⟩ := State.cmdPeek_signal.1 hp
            exact ⟨c, _, _, rfl, Cursor.moved_of_nextEdge hm⟩
          | ok q u =>
            obtain ⟨-, rfl⟩ := State.cmdPeek_ok.1 hp
            simp only [Res.andThen_of_ok]
            split
            · obtain ⟨m, p, v, h, hmv⟩ := ih { s with cmd := c }
              exact ⟨m, p, v, h, (Cursor.moved_of_nextEdge hm).trans hmv⟩
            · exact ⟨c, _, _, rfl, Cursor.moved_of_nextEdge hm⟩
      · cases hc : s.cmdNextEdge with
        | signal x u =>
          obtain ⟨-, rfl⟩ := State.cmdNextEdge_signal.1 hc
          exact ⟨_, _, _, rfl, .refl _⟩
        | ok a u =>
          obtain ⟨c, hm, rfl⟩ := State.cmdNextEdge_ok.1 hc
          obtain ⟨m, p, v, h, hmv⟩ := ih { s with cmd := c }
          exact ⟨m, p, v, h, (Cursor.moved_of_nextEdge hm).trans hmv⟩
    · exact ⟨s.cmd, s.cmdStartSample, false, rfl, .refl _⟩

/-- ARBITRATE changes the clock cursor, the data cursors and the data start register, and nothing else (R80). -/
theorem State.arbitratePasses_frame (fuel : Nat) (s : State) :
    ∃ c d p, (State.arbitratePasses fuel s).state = { s with clk := c, dat := d, dataStartSample := p } ∧
      s.clk.Moved c ∧ d.map (·.line) = s.dat.map (·.line) := by
  induction fuel generalizing s with
  | zero => exact ⟨s.clk, s.dat, s.dataStartSample, rfl, .refl _, rfl⟩
  | succ fuel ih =>
    unfold State.arbitratePasses
    split
    · exact ⟨s.clk, s.dat, s.dataStartSample, rfl, .refl _, rfl⟩
    · next c cs hcs =>
      simp only
      generalize earliest c cs = mn
      split
      · exact ⟨s.clk, s.dat, mn, rfl, .refl _, rfl⟩
      · split
        · exact ⟨s.clk, s.dat, s.dataStartSample, rfl, .refl _, rfl⟩
        · cases hc : s.clkTo mn with
          | signal x u =>
            obtain ⟨-, rfl⟩ := State.clkTo_signal.1 hc
            exact ⟨_, _, _, rfl, .refl _, rfl⟩
          | ok a u =>
            obtain ⟨c, hm, rfl⟩ := State.clkTo_ok.1 hc
            simp only [Res.andThen_of_ok]
            have hl := DataSet.each_toAbs_lines s.nSamples mn s.dat
            cases hd : ({ s with clk := c } : State).datTo mn with
            | signal x u =>
              obtain ⟨d, he, rfl⟩ := State.datTo_signal.1 hd
              simp only at he
              rw [he] at hl
              exact ⟨c, d, _, rfl, Cursor.moved_of_toAbs hm, hl⟩
            | ok b u =>
              obtain ⟨d, he, rfl⟩ := State.datTo_ok.1 hd
              simp only at he
              rw [he] at hl
              obtain ⟨c', d', p, h, hmv, hl'⟩ := ih { s with clk := c, dat := d }
              exact ⟨c', d', p, h, (Cursor.moved_of_toAbs hm).trans hmv, hl'.trans hl⟩

/-- The interruption test that completes: when it is not due, when the command line is low, and when it is high (R89). -/
theorem State.interruptionTest_ok {s t : State} {b : Bool} :
    s.interruptionTest = .ok b t ↔
      (s.cmdStartValid = false ∧ b = false ∧ t = s) ∨
      (s.cmdStartValid = true ∧ ∃ q, s.clk.peek = .ok q ∧
        ((q < s.cmdStartSample ∧ b = false ∧ t = s) ∨
          (s.cmdStartSample ≤ q ∧ s.cmd.level = false ∧ b = true ∧ t = s) ∨
          (s.cmdStartSample ≤ q ∧ s.cmd.level = true ∧ b = false ∧ ∃ a, s.locate = .ok a t))) := by
  unfold State.interruptionTest
  cases hv : s.cmdStartValid with
  | false =>
    constructor
    · intro h; cases h; exact .inl ⟨rfl, rfl, rfl⟩
    · rintro (⟨-, rfl, rfl⟩ | ⟨h, -⟩)
      · rfl
      · cases h
  | true =>
    simp only [if_true, Res.andThen_ok, State.clkPeek_ok, Bool.true_eq_false, false_and, true_and, false_or]
    constructor
    · rintro ⟨q, _, ⟨hq, rfl⟩, h⟩
      refine ⟨q, hq, ?_⟩
      split at h
      · cases hl : State.cmd _ |>.level
        · simp only [hl] at h; cases h; exact .inr (.inl ⟨by assumption, rfl, rfl, rfl⟩)
        · simp only [hl, if_true] at h
          obtain ⟨a, u, ha, hu⟩ := Res.andThen_ok.1 h
          cases hu
          exact .inr (.inr ⟨by assumption, rfl, rfl, a, ha⟩)
      · cases h; exact .inl ⟨by omega, rfl, rfl⟩
    · rintro ⟨q, hq, ⟨h, rfl, rfl⟩ | ⟨h, hl, rfl, rfl⟩ | ⟨h, hl, rfl, a, ha⟩⟩
      · exact ⟨q, _, ⟨hq, rfl⟩, by rw [if_neg (by omega)]⟩
      · exact ⟨q, _, ⟨hq, rfl⟩, by rw [if_pos h, hl]; rfl⟩
      · exact ⟨q, s, ⟨hq, rfl⟩, by rw [if_pos h, hl]; exact Res.andThen_ok.2 ⟨a, t, ha, rfl⟩⟩

/-- One FSM cycle: the bus cycle of its sub-state, then its action on the bit sampled or supplied; it signals only if the
bus cycle does (R108, R109). -/
theorem State.fsmStep_eq (f : FrameState) (sup : Option SuppliedBit) (s : State) :
    s.fsmStep f sup =
      match s.fsmCycle f with
      | .signal x u => .signal x u
      | .ok c u =>
        let r := u.fsmAction f (sup.bind (·.cls)) { c with bit := (sup.map (·.bit)).getD c.bit }
        .ok r.1 r.2 := by
  unfold State.fsmStep
  cases s.fsmCycle f with
  | signal x u => rfl
  | ok c u => cases sup <;> rfl

/-- An AnalyzeCommand iteration: it goes on, goes back to the search with a progress report, or ends the run (R116). -/
theorem State.analyze_eq (f : FrameState) (sup : Option SuppliedBit) (s : State) :
    s.analyze f sup =
      match s.fsmStep f sup with
      | .signal x u => u.terminate x.reason
      | .ok .goOn u => { u with phase := .analyzeCommand }
      | .ok .complete u => ({ u with phase := .findCmdStart }).progress
      | .ok .abort u => ({ u with phase := .findCmdStart }).progress := by
  unfold State.analyze
  cases s.fsmStep f sup with
  | signal x u => rfl
  | ok r u => cases r <;> rfl

/-- A ReadData iteration: it reads on, leaves the data phase, or ends the run (R116, R120). -/
theorem State.read_eq (src : Option Byte) (s : State) :
    s.read src =
      match s.extractByte src with
      | .signal x u => u.terminate x.reason
      | .ok .byteDone u => { u with phase := .readData }
      | .ok .blockDoneMore u => { u with phase := .readData }
      | .ok .blockDoneNoMore u => u.afterData
      | .ok .interrupted u => u.afterData := by
  unfold State.read
  cases s.extractByte src with
  | signal x u => rfl
  | ok r u => cases r <;> rfl

/-- Once the driver has left `AnalyzeCommand`, the rest of a frame's bits is taken by nothing (log 21). -/
theorem State.exchangeRest_left (cls : Option FrameClass) (bits : List Bool) (s : State) (h : s.phase ≠ .analyzeCommand) :
    s.exchangeRest cls bits = s := by
  cases bits with
  | nil => rfl
  | cons b bs => exact if_neg h

/-- A frame with start bit 1 is one StartBit cycle, whatever its other bits are (R59 (b), R97). -/
theorem State.exchange_notAFrame (cls : Option FrameClass) (bits : List Bool) (s : State) :
    s.exchange cls (true :: bits) =
      ({ s with phase := .analyzeCommand, frameState := .startBit }).analyze .startBit (some ⟨true, cls⟩) := by
  refine State.exchangeRest_left cls bits _ ?_
  rw [State.analyze_eq, State.fsmStep_eq]
  cases State.fsmCycle FrameState.startBit { s with phase := .analyzeCommand, frameState := .startBit } with
  | signal x u => simp [State.terminate, State.emit]
  | ok c u => simp [State.fsmAction, State.startBitAction, State.progress, State.emit]

/-- LOCATE as a whole changes the command cursor and the command start registers only. -/
theorem State.locate_frame (s : State) :
    ∃ m p v, s.locate.state = { s with cmd := m, cmdStartSample := p, cmdStartValid := v } ∧ s.cmd.Moved m :=
  State.locatePasses_frame _ s

/-- ARBITRATE as a whole changes the clock cursor, the data cursors and the data start register only. -/
theorem State.arbitrate_frame (s : State) :
    ∃ c d p, s.arbitrate.state = { s with clk := c, dat := d, dataStartSample := p } ∧
      s.clk.Moved c ∧ d.map (·.line) = s.dat.map (·.line) :=
  State.arbitratePasses_frame _ s

end Sys2Proof.Machine
end

