-- ==== Sys2Proof/Laws/Decode.lean ====
section
/-! SUPPORT. The fields of a packed frame, the codes of a control word, and the bits of a frame in the order of
transmission. -/

namespace Sys2Proof

/-! The fields of `pack48` and `pack136` are the operands (R46 to R48). -/

@[simp] theorem stop48_pack48 (dir : BitVec 1) (idx : BitVec 6) (arg : BitVec 32) (crc : BitVec 7) (stop : BitVec 1) :
    stop48 (pack48 dir idx arg crc stop) = stop := by
  apply BitVec.eq_of_getLsbD_eq
  intro i hlt
  simp only [stop48, pack48, BitVec.getLsbD_extractLsb', BitVec.getLsbD_append, hlt, decide_true, Bool.true_and]
  rw [if_pos (by omega)]
  exact congrArg _ (by omega)

@[simp] theorem crc48_pack48 (dir : BitVec 1) (idx : BitVec 6) (arg : BitVec 32) (crc : BitVec 7) (stop : BitVec 1) :
    crc48 (pack48 dir idx arg crc stop) = crc := by
  apply BitVec.eq_of_getLsbD_eq
  intro i hlt
  simp only [crc48, pack48, BitVec.getLsbD_extractLsb', BitVec.getLsbD_append, hlt, decide_true, Bool.true_and]
  rw [if_neg (by omega), if_pos (by omega)]
  exact congrArg _ (by omega)

@[simp] theorem arg48_pack48 (dir : BitVec 1) (idx : BitVec 6) (arg : BitVec 32) (crc : BitVec 7) (stop : BitVec 1) :
    arg48 (pack48 dir idx arg crc stop) = arg := by
  apply BitVec.eq_of_getLsbD_eq
  intro i hlt
  simp only [arg48, pack48, BitVec.getLsbD_extractLsb', BitVec.getLsbD_append, hlt, decide_true, Bool.true_and]
  rw [if_neg (by omega), if_neg (by omega), if_pos (by omega)]
  exact congrArg _ (by omega)

@[simp] theorem index48_pack48 (dir : BitVec 1) (idx : BitVec 6) (arg : BitVec 32) (crc : BitVec 7) (stop : BitVec 1) :
    index48 (pack48 dir idx arg crc stop) = idx := by
  apply BitVec.eq_of_getLsbD_eq
  intro i hlt
  simp only [index48, pack48, BitVec.getLsbD_extractLsb', BitVec.getLsbD_append, hlt, decide_true, Bool.true_and]
  rw [if_neg (by omega), if_neg (by omega), if_neg (by omega), if_pos (by omega)]
  exact congrArg _ (by omega)

@[simp] theorem dir48_pack48 (dir : BitVec 1) (idx : BitVec 6) (arg : BitVec 32) (crc : BitVec 7) (stop : BitVec 1) :
    dir48 (pack48 dir idx arg crc stop) = dir := by
  apply BitVec.eq_of_getLsbD_eq
  intro i hlt
  simp only [dir48, pack48, BitVec.getLsbD_extractLsb', BitVec.getLsbD_append, hlt, decide_true, Bool.true_and]
  rw [if_neg (by omega), if_neg (by omega), if_neg (by omega), if_neg (by omega), if_pos (by omega)]
  exact congrArg _ (by omega)

@[simp] theorem start48_pack48 (dir : BitVec 1) (idx : BitVec 6) (arg : BitVec 32) (crc : BitVec 7) (stop : BitVec 1) :
    start48 (pack48 dir idx arg crc stop) = 0 := by
  apply BitVec.eq_of_getLsbD_eq
  intro i hlt
  simp only [start48, pack48, BitVec.getLsbD_extractLsb', BitVec.getLsbD_append, hlt, decide_true, Bool.true_and]
  rw [if_neg (by omega), if_neg (by omega), if_neg (by omega), if_neg (by omega), if_neg (by omega)]
  obtain rfl : i = 0 := by omega
  rfl

@[simp] theorem stop136_pack136 (idx : BitVec 6) (hi : BitVec 64) (lo : BitVec 63) (stop : BitVec 1) :
    stop136 (pack136 idx hi lo stop) = stop := by
  apply BitVec.eq_of_getLsbD_eq
  intro i hlt
  simp only [stop136, pack136, BitVec.getLsbD_extractLsb', BitVec.getLsbD_append, hlt, decide_true, Bool.true_and]
  rw [if_pos (by omega)]
  exact congrArg _ (by omega)

@[simp] theorem argLow136_pack136 (idx : BitVec 6) (hi : BitVec 64) (lo : BitVec 63) (stop : BitVec 1) :
    argLow136 (pack136 idx hi lo stop) = lo := by
  apply BitVec.eq_of_getLsbD_eq
  intro i hlt
  simp only [argLow136, pack136, BitVec.getLsbD_extractLsb', BitVec.getLsbD_append, hlt, decide_true, Bool.true_and]
  rw [if_neg (by omega), if_pos (by omega)]
  exact congrArg _ (by omega)

@[simp] theorem argHigh136_pack136 (idx : BitVec 6) (hi : BitVec 64) (lo : BitVec 63) (stop : BitVec 1) :
    argHigh136 (pack136 idx hi lo stop) = hi := by
  apply BitVec.eq_of_getLsbD_eq
  intro i hlt
  simp only [argHigh136, pack136, BitVec.getLsbD_extractLsb', BitVec.getLsbD_append, hlt, decide_true, Bool.true_and]
  rw [if_neg (by omega), if_neg (by omega), if_pos (by omega)]
  exact congrArg _ (by omega)

@[simp] theorem index136_pack136 (idx : BitVec 6) (hi : BitVec 64) (lo : BitVec 63) (stop : BitVec 1) :
    index136 (pack136 idx hi lo stop) = idx := by
  apply BitVec.eq_of_getLsbD_eq
  intro i hlt
  simp only [index136, pack136, BitVec.getLsbD_extractLsb', BitVec.getLsbD_append, hlt, decide_true, Bool.true_and]
  rw [if_neg (by omega), if_neg (by omega), if_neg (by omega), if_pos (by omega)]
  exact congrArg _ (by omega)

@[simp] theorem dir136_pack136 (idx : BitVec 6) (hi : BitVec 64) (lo : BitVec 63) (stop : BitVec 1) :
    dir136 (pack136 idx hi lo stop) = 0 := by
  apply BitVec.eq_of_getLsbD_eq
  intro i hlt
  simp only [dir136, pack136, BitVec.getLsbD_extractLsb', BitVec.getLsbD_append, hlt, decide_true, Bool.true_and]
  rw [if_neg (by omega), if_neg (by omega), if_neg (by omega), if_neg (by omega), if_pos (by omega)]
  obtain rfl : i = 0 := by omega
  rfl

@[simp] theorem start136_pack136 (idx : BitVec 6) (hi : BitVec 64) (lo : BitVec 63) (stop : BitVec 1) :
    start136 (pack136 idx hi lo stop) = 0 := by
  apply BitVec.eq_of_getLsbD_eq
  intro i hlt
  simp only [start136, pack136, BitVec.getLsbD_extractLsb', BitVec.getLsbD_append, hlt, decide_true, Bool.true_and]
  rw [if_neg (by omega), if_neg (by omega), if_neg (by omega), if_neg (by omega), if_neg (by omega)]
  obtain rfl : i = 0 := by omega
  rfl

/-! The codes of R56 and the control word. -/

@[simp] theorem Phase.ofCode_code (p : Phase) : Phase.ofCode p.code = some p := by
  cases p <;> rfl

@[simp] theorem FrameState.ofCode_code (f : FrameState) : FrameState.ofCode f.code = some f := by
  cases f <;> rfl

@[simp] theorem controlPhase_controlWord (p : Phase) (f : FrameState) : controlPhase (controlWord p f) = p.code := by
  cases p <;> cases f <;> rfl

@[simp] theorem controlFrameState_controlWord (p : Phase) (f : FrameState) :
    controlFrameState (controlWord p f) = f.code := by
  cases p <;> cases f <;> rfl

/-! Bits in the order of transmission. -/

namespace Machine

@[simp] theorem bitsOf_length {n : Nat} (w : BitVec n) : (bitsOf w).length = n := by
  simp [bitsOf]

/-- The bits of a concatenation are the bits of its parts, in order. -/
theorem bitsOf_append {m n : Nat} (a : BitVec m) (b : BitVec n) : bitsOf (a ++ b) = bitsOf a ++ bitsOf b := by
  apply List.ext_getElem
  · simp [bitsOf]
  · intro i h1 h2
    simp only [bitsOf, List.getElem_map, List.getElem_range, List.getElem_append, List.length_map, List.length_range]
    simp only [bitsOf, List.length_map, List.length_range] at h1
    rw [BitVec.getMsbD_append]
    split <;> simp_all

/-- Shifting in the bits of a word of n bits, first bit first, leaves that word, at the width of the accumulator (R51). -/
theorem foldl_shl1_bitsOf {m n : Nat} (w : BitVec n) :
    (bitsOf w).foldl shl1 (0 : BitVec m) = w.setWidth m := by
  have key : ∀ k, k ≤ n → ((List.range k).map (fun j => w.getMsbD j)).foldl shl1 (0 : BitVec m)
      = (w.ushiftRight (n - k)).setWidth m := by
    intro k
    induction k with
    | zero =>
      intro _
      apply BitVec.eq_of_getLsbD_eq
      intro i hi
      simp [BitVec.getLsbD_ushiftRight]
    | succ k ih =>
      intro hk
      rw [List.range_succ, List.map_append, List.foldl_append, ih (by omega)]
      apply BitVec.eq_of_getLsbD_eq
      intro i hi
      simp only [List.map_cons, List.map_nil, List.foldl_cons, List.foldl_nil, shl1, BitVec.ushiftRight_eq,
        BitVec.getLsbD_or, BitVec.getLsbD_shiftLeft, BitVec.getLsbD_setWidth, BitVec.getLsbD_ushiftRight,
        BitVec.getLsbD_ofBool, BitVec.getMsbD]
      cases i with
      | zero => simp [hi, show k < n by omega, show n - 1 - k = n - (k + 1) by omega]
      | succ i => simp [hi, show i < m by omega, show n - k + i = n - (k + 1) + (i + 1) by omega]
  simpa [bitsOf] using key n le_rfl

end Machine

end Sys2Proof
end

