-- ==== Sys2Proof/Laws/Order.lean ====
section
/-! SUPPORT. The order of emitted frames (R44 (b)): what comes later stays after a frame, and a list of frames in time
order grows by a frame that is after all of them. -/

namespace Sys2Proof.Machine

theorem State.noClockEdge_mono {s : State} {p p' q : Nat} (h : p ≤ p') (hs : s.noClockEdge p q = true) :
    s.noClockEdge p' q = true := by
  simp only [State.noClockEdge, List.all_eq_true, Bool.not_eq_true', Bool.and_eq_false_iff, decide_eq_false_iff_not] at hs ⊢
  intro e he
  have := hs e he
  omega

/-- What begins after a frame may as well begin later. -/
theorem State.afterFrame_mono {s : State} {command : Bool} {f : Frame} {p p' : Nat} (h : p ≤ p')
    (hs : s.afterFrame command f p = true) : s.afterFrame command f p' = true := by
  simp only [State.afterFrame, Bool.or_eq_true, Bool.and_eq_true, decide_eq_true_eq] at hs ⊢
  rcases hs with hs | ⟨⟨hc, hf⟩, hn⟩
  · exact .inl (by omega)
  · exact .inr ⟨⟨hc, by omega⟩, State.noClockEdge_mono h hn⟩

/-- What is after a frame without the exception for commands is after it. -/
theorem State.afterFrame_of_ended {s : State} {command : Bool} {f : Frame} {p : Nat}
    (hs : s.afterFrame false f p = true) : s.afterFrame command f p = true := by
  simp only [State.afterFrame, Bool.false_and, Bool.or_false] at hs
  simp [State.afterFrame, hs]

/-- The order grows by a frame exactly where that frame is after all the others. -/
theorem State.inTimeOrder_append (s : State) (fs : List Frame) (g : Frame) :
    s.inTimeOrder (fs ++ [g]) ↔
      s.inTimeOrder fs ∧ ∀ f ∈ fs, s.afterFrame (g.kind == .start) f g.first = true := by
  simp [State.inTimeOrder, List.pairwise_append]

end Sys2Proof.Machine
end

