-- ==== Sys2Proof/Laws/PerInstr.lean ====
section
/-! SUPPORT. The rows of spec/opcode_table.json, with their fixed bits, and for every constructor of `Instr` the lemma that
what it encodes to has the fixed bits of its row (R63). -/

namespace Sys2Proof.Laws

open Sys2Proof

/-- The fixed bits of a row of the opcode table: of a control word, its phase and (in the FSM rows) its `frame_state`; of
a bus frame, its start bit, its direction bit and (in the command rows) its index, that is the row's `mask` and `match`;
of a byte-unit, none. -/
inductive Row where
  | control (phase : BitVec 3) (frameState : Option (BitVec 3))
  | frame48 (dir : BitVec 1) (index : Option (BitVec 6))
  | frame136
  | unit1
  | unit4

/-- A unit has the fixed bits of a row. -/
def Row.fits : Row → BusUnit → Prop
  | .control p f, .control cw => controlPhase cw = p ∧ f.all (fun x => controlFrameState cw = x) = true
  | .frame48 d i, .frame48 w => start48 w = 0 ∧ dir48 w = d ∧ i.all (fun x => index48 w = x) = true
  | .frame136, .frame136 w => start136 w = 0 ∧ dir136 w = 0
  | .unit1, .unit1 _ => True
  | .unit4, .unit4 _ => True
  | _, _ => False

/-- The row of an instruction. -/
def rowOf : Instr → Row
  | .locate _ => .control 0b000 none
  | .arbitrate _ => .control 0b001 none
  | .extractByte _ => .control 0b010 none
  | .fsmStartBit => .control 0b011 (some 0b000)
  | .fsmDirection => .control 0b011 (some 0b001)
  | .fsmCommandField => .control 0b011 (some 0b010)
  | .fsmArgumentField => .control 0b011 (some 0b011)
  | .fsmCrc7 => .control 0b011 (some 0b100)
  | .fsmStop => .control 0b011 (some 0b101)
  | .halt _ => .control 0b100 none
  | .acmd6 _ _ _ => .frame48 1 (some 6)
  | .acmd13 _ _ _ => .frame48 1 (some 13)
  | .acmd17 _ _ _ => .frame48 1 (some 17)
  | .acmd18 _ _ _ => .frame48 1 (some 18)
  | .acmd19 _ _ _ => .frame48 1 (some 19)
  | .acmd20 _ _ _ => .frame48 1 (some 20)
  | .acmd21 _ _ _ => .frame48 1 (some 21)
  | .acmd22 _ _ _ => .frame48 1 (some 22)
  | .acmd23 _ _ _ => .frame48 1 (some 23)
  | .acmd24 _ _ _ => .frame48 1 (some 24)
  | .acmd25 _ _ _ => .frame48 1 (some 25)
  | .acmd38 _ _ _ => .frame48 1 (some 38)
  | .acmd39 _ _ _ => .frame48 1 (some 39)
  | .acmd40 _ _ _ => .frame48 1 (some 40)
  | .acmd41 _ _ _ => .frame48 1 (some 41)
  | .acmd42 _ _ _ => .frame48 1 (some 42)
  | .acmd43 _ _ _ => .frame48 1 (some 43)
  | .acmd44 _ _ _ => .frame48 1 (some 44)
  | .acmd45 _ _ _ => .frame48 1 (some 45)
  | .acmd46 _ _ _ => .frame48 1 (some 46)
  | .acmd47 _ _ _ => .frame48 1 (some 47)
  | .acmd48 _ _ _ => .frame48 1 (some 48)
  | .acmd49 _ _ _ => .frame48 1 (some 49)
  | .acmd51 _ _ _ => .frame48 1 (some 51)
  | .cmd0 _ _ _ => .frame48 1 (some 0)
  | .cmd1 _ _ _ => .frame48 1 (some 1)
  | .cmd2 _ _ _ => .frame48 1 (some 2)
  | .cmd3 _ _ _ => .frame48 1 (some 3)
  | .cmd4 _ _ _ => .frame48 1 (some 4)
  | .cmd5 _ _ _ => .frame48 1 (some 5)
  | .cmd6 _ _ _ => .frame48 1 (some 6)
  | .cmd7 _ _ _ => .frame48 1 (some 7)
  | .cmd8 _ _ _ => .frame48 1 (some 8)
  | .cmd9 _ _ _ => .frame48 1 (some 9)
  | .cmd10 _ _ _ => .frame48 1 (some 10)
  | .cmd11 _ _ _ => .frame48 1 (some 11)
  | .cmd12 _ _ _ => .frame48 1 (some 12)
  | .cmd13 _ _ _ => .frame48 1 (some 13)
  | .cmd14 _ _ _ => .frame48 1 (some 14)
  | .cmd15 _ _ _ => .frame48 1 (some 15)
  | .cmd16 _ _ _ => .frame48 1 (some 16)
  | .cmd17 _ _ _ => .frame48 1 (some 17)
  | .cmd18 _ _ _ => .frame48 1 (some 18)
  | .cmd19 _ _ _ => .frame48 1 (some 19)
  | .cmd20 _ _ _ => .frame48 1 (some 20)
  | .cmd21 _ _ _ => .frame48 1 (some 21)
  | .cmd22 _ _ _ => .frame48 1 (some 22)
  | .cmd23 _ _ _ => .frame48 1 (some 23)
  | .cmd24 _ _ _ => .frame48 1 (some 24)
  | .cmd25 _ _ _ => .frame48 1 (some 25)
  | .cmd26 _ _ _ => .frame48 1 (some 26)
  | .cmd27 _ _ _ => .frame48 1 (some 27)
  | .cmd28 _ _ _ => .frame48 1 (some 28)
  | .cmd29 _ _ _ => .frame48 1 (some 29)
  | .cmd30 _ _ _ => .frame48 1 (some 30)
  | .cmd31 _ _ _ => .frame48 1 (some 31)
  | .cmd32 _ _ _ => .frame48 1 (some 32)
  | .cmd33 _ _ _ => .frame48 1 (some 33)
  | .cmd34 _ _ _ => .frame48 1 (some 34)
  | .cmd35 _ _ _ => .frame48 1 (some 35)
  | .cmd36 _ _ _ => .frame48 1 (some 36)
  | .cmd37 _ _ _ => .frame48 1 (some 37)
  | .cmd38 _ _ _ => .frame48 1 (some 38)
  | .cmd39 _ _ _ => .frame48 1 (some 39)
  | .cmd40 _ _ _ => .frame48 1 (some 40)
  | .cmd41 _ _ _ => .frame48 1 (some 41)
  | .cmd42 _ _ _ => .frame48 1 (some 42)
  | .cmd43 _ _ _ => .frame48 1 (some 43)
  | .cmd44 _ _ _ => .frame48 1 (some 44)
  | .cmd45 _ _ _ => .frame48 1 (some 45)
  | .cmd46 _ _ _ => .frame48 1 (some 46)
  | .cmd47 _ _ _ => .frame48 1 (some 47)
  | .cmd48 _ _ _ => .frame48 1 (some 48)
  | .cmd49 _ _ _ => .frame48 1 (some 49)
  | .cmd50 _ _ _ => .frame48 1 (some 50)
  | .cmd51 _ _ _ => .frame48 1 (some 51)
  | .cmd52 _ _ _ => .frame48 1 (some 52)
  | .cmd53 _ _ _ => .frame48 1 (some 53)
  | .cmd54 _ _ _ => .frame48 1 (some 54)
  | .cmd55 _ _ _ => .frame48 1 (some 55)
  | .cmd56 _ _ _ => .frame48 1 (some 56)
  | .cmd57 _ _ _ => .frame48 1 (some 57)
  | .cmd58 _ _ _ => .frame48 1 (some 58)
  | .cmd59 _ _ _ => .frame48 1 (some 59)
  | .cmd60 _ _ _ => .frame48 1 (some 60)
  | .cmd61 _ _ _ => .frame48 1 (some 61)
  | .cmd62 _ _ _ => .frame48 1 (some 62)
  | .cmd63 _ _ _ => .frame48 1 (some 63)
  | .rsp _ _ _ _ => .frame48 0 none
  | .rspLong _ _ _ _ => .frame136
  | .data1 _ => .unit1
  | .data4 _ => .unit4

/-- What an instruction encodes to has the fixed bits of its row. -/
def RowBits.Statement (i : Instr) : Prop := (rowOf i).fits (encode i)

theorem RowBits.control (p sss : BitVec 3) : (Row.control p none).fits (.control (p ++ sss)) := by
  refine ⟨?_, rfl⟩
  apply BitVec.eq_of_getLsbD_eq
  intro i hi
  simp only [controlPhase, BitVec.getLsbD_extractLsb', BitVec.getLsbD_append, hi, decide_true, Bool.true_and]
  rw [if_neg (by omega)]
  exact congrArg _ (by omega)

theorem RowBits.host (n : BitVec 6) (arg : BitVec 32) (crc : BitVec 7) (stop : BitVec 1) :
    (Row.frame48 1 (some n)).fits (.frame48 (hostFrame n arg crc stop)) := by
  simp [Row.fits, hostFrame]

theorem RowBits.locate (sss : BitVec 3) : RowBits.Statement (.locate sss) :=
  RowBits.control _ _

theorem RowBits.arbitrate (sss : BitVec 3) : RowBits.Statement (.arbitrate sss) :=
  RowBits.control _ _

theorem RowBits.extractByte (sss : BitVec 3) : RowBits.Statement (.extractByte sss) :=
  RowBits.control _ _

theorem RowBits.fsmStartBit : RowBits.Statement .fsmStartBit :=
  ⟨rfl, rfl⟩

theorem RowBits.fsmDirection : RowBits.Statement .fsmDirection :=
  ⟨rfl, rfl⟩

theorem RowBits.fsmCommandField : RowBits.Statement .fsmCommandField :=
  ⟨rfl, rfl⟩

theorem RowBits.fsmArgumentField : RowBits.Statement .fsmArgumentField :=
  ⟨rfl, rfl⟩

theorem RowBits.fsmCrc7 : RowBits.Statement .fsmCrc7 :=
  ⟨rfl, rfl⟩

theorem RowBits.fsmStop : RowBits.Statement .fsmStop :=
  ⟨rfl, rfl⟩

theorem RowBits.halt (sss : BitVec 3) : RowBits.Statement (.halt sss) :=
  RowBits.control _ _

theorem RowBits.acmd6 (arg : BitVec 32) (crc : BitVec 7) (stop : BitVec 1) : RowBits.Statement (.acmd6 arg crc stop) :=
  RowBits.host _ _ _ _

theorem RowBits.acmd13 (arg : BitVec 32) (crc : BitVec 7) (stop : BitVec 1) : RowBits.Statement (.acmd13 arg crc stop) :=
  RowBits.host _ _ _ _

theorem RowBits.acmd17 (arg : BitVec 32) (crc : BitVec 7) (stop : BitVec 1) : RowBits.Statement (.acmd17 arg crc stop) :=
  RowBits.host _ _ _ _

theorem RowBits.acmd18 (arg : BitVec 32) (crc : BitVec 7) (stop : BitVec 1) : RowBits.Statement (.acmd18 arg crc stop) :=
  RowBits.host _ _ _ _

theorem RowBits.acmd19 (arg : BitVec 32) (crc : BitVec 7) (stop : BitVec 1) : RowBits.Statement (.acmd19 arg crc stop) :=
  RowBits.host _ _ _ _

theorem RowBits.acmd20 (arg : BitVec 32) (crc : BitVec 7) (stop : BitVec 1) : RowBits.Statement (.acmd20 arg crc stop) :=
  RowBits.host _ _ _ _

theorem RowBits.acmd21 (arg : BitVec 32) (crc : BitVec 7) (stop : BitVec 1) : RowBits.Statement (.acmd21 arg crc stop) :=
  RowBits.host _ _ _ _

theorem RowBits.acmd22 (arg : BitVec 32) (crc : BitVec 7) (stop : BitVec 1) : RowBits.Statement (.acmd22 arg crc stop) :=
  RowBits.host _ _ _ _

theorem RowBits.acmd23 (arg : BitVec 32) (crc : BitVec 7) (stop : BitVec 1) : RowBits.Statement (.acmd23 arg crc stop) :=
  RowBits.host _ _ _ _

theorem RowBits.acmd24 (arg : BitVec 32) (crc : BitVec 7) (stop : BitVec 1) : RowBits.Statement (.acmd24 arg crc stop) :=
  RowBits.host _ _ _ _

theorem RowBits.acmd25 (arg : BitVec 32) (crc : BitVec 7) (stop : BitVec 1) : RowBits.Statement (.acmd25 arg crc stop) :=
  RowBits.host _ _ _ _

theorem RowBits.acmd38 (arg : BitVec 32) (crc : BitVec 7) (stop : BitVec 1) : RowBits.Statement (.acmd38 arg crc stop) :=
  RowBits.host _ _ _ _

theorem RowBits.acmd39 (arg : BitVec 32) (crc : BitVec 7) (stop : BitVec 1) : RowBits.Statement (.acmd39 arg crc stop) :=
  RowBits.host _ _ _ _

theorem RowBits.acmd40 (arg : BitVec 32) (crc : BitVec 7) (stop : BitVec 1) : RowBits.Statement (.acmd40 arg crc stop) :=
  RowBits.host _ _ _ _

theorem RowBits.acmd41 (arg : BitVec 32) (crc : BitVec 7) (stop : BitVec 1) : RowBits.Statement (.acmd41 arg crc stop) :=
  RowBits.host _ _ _ _

theorem RowBits.acmd42 (arg : BitVec 32) (crc : BitVec 7) (stop : BitVec 1) : RowBits.Statement (.acmd42 arg crc stop) :=
  RowBits.host _ _ _ _

theorem RowBits.acmd43 (arg : BitVec 32) (crc : BitVec 7) (stop : BitVec 1) : RowBits.Statement (.acmd43 arg crc stop) :=
  RowBits.host _ _ _ _

theorem RowBits.acmd44 (arg : BitVec 32) (crc : BitVec 7) (stop : BitVec 1) : RowBits.Statement (.acmd44 arg crc stop) :=
  RowBits.host _ _ _ _

theorem RowBits.acmd45 (arg : BitVec 32) (crc : BitVec 7) (stop : BitVec 1) : RowBits.Statement (.acmd45 arg crc stop) :=
  RowBits.host _ _ _ _

theorem RowBits.acmd46 (arg : BitVec 32) (crc : BitVec 7) (stop : BitVec 1) : RowBits.Statement (.acmd46 arg crc stop) :=
  RowBits.host _ _ _ _

theorem RowBits.acmd47 (arg : BitVec 32) (crc : BitVec 7) (stop : BitVec 1) : RowBits.Statement (.acmd47 arg crc stop) :=
  RowBits.host _ _ _ _

theorem RowBits.acmd48 (arg : BitVec 32) (crc : BitVec 7) (stop : BitVec 1) : RowBits.Statement (.acmd48 arg crc stop) :=
  RowBits.host _ _ _ _

theorem RowBits.acmd49 (arg : BitVec 32) (crc : BitVec 7) (stop : BitVec 1) : RowBits.Statement (.acmd49 arg crc stop) :=
  RowBits.host _ _ _ _

theorem RowBits.acmd51 (arg : BitVec 32) (crc : BitVec 7) (stop : BitVec 1) : RowBits.Statement (.acmd51 arg crc stop) :=
  RowBits.host _ _ _ _

theorem RowBits.cmd0 (arg : BitVec 32) (crc : BitVec 7) (stop : BitVec 1) : RowBits.Statement (.cmd0 arg crc stop) :=
  RowBits.host _ _ _ _

theorem RowBits.cmd1 (arg : BitVec 32) (crc : BitVec 7) (stop : BitVec 1) : RowBits.Statement (.cmd1 arg crc stop) :=
  RowBits.host _ _ _ _

theorem RowBits.cmd2 (arg : BitVec 32) (crc : BitVec 7) (stop : BitVec 1) : RowBits.Statement (.cmd2 arg crc stop) :=
  RowBits.host _ _ _ _

theorem RowBits.cmd3 (arg : BitVec 32) (crc : BitVec 7) (stop : BitVec 1) : RowBits.Statement (.cmd3 arg crc stop) :=
  RowBits.host _ _ _ _

theorem RowBits.cmd4 (arg : BitVec 32) (crc : BitVec 7) (stop : BitVec 1) : RowBits.Statement (.cmd4 arg crc stop) :=
  RowBits.host _ _ _ _

theorem RowBits.cmd5 (arg : BitVec 32) (crc : BitVec 7) (stop : BitVec 1) : RowBits.Statement (.cmd5 arg crc stop) :=
  RowBits.host _ _ _ _

theorem RowBits.cmd6 (arg : BitVec 32) (crc : BitVec 7) (stop : BitVec 1) : RowBits.Statement (.cmd6 arg crc stop) :=
  RowBits.host _ _ _ _

theorem RowBits.cmd7 (arg : BitVec 32) (crc : BitVec 7) (stop : BitVec 1) : RowBits.Statement (.cmd7 arg crc stop) :=
  RowBits.host _ _ _ _

theorem RowBits.cmd8 (arg : BitVec 32) (crc : BitVec 7) (stop : BitVec 1) : RowBits.Statement (.cmd8 arg crc stop) :=
  RowBits.host _ _ _ _

theorem RowBits.cmd9 (arg : BitVec 32) (crc : BitVec 7) (stop : BitVec 1) : RowBits.Statement (.cmd9 arg crc stop) :=
  RowBits.host _ _ _ _

theorem RowBits.cmd10 (arg : BitVec 32) (crc : BitVec 7) (stop : BitVec 1) : RowBits.Statement (.cmd10 arg crc stop) :=
  RowBits.host _ _ _ _

theorem RowBits.cmd11 (arg : BitVec 32) (crc : BitVec 7) (stop : BitVec 1) : RowBits.Statement (.cmd11 arg crc stop) :=
  RowBits.host _ _ _ _

theorem RowBits.cmd12 (arg : BitVec 32) (crc : BitVec 7) (stop : BitVec 1) : RowBits.Statement (.cmd12 arg crc stop) :=
  RowBits.host _ _ _ _

theorem RowBits.cmd13 (arg : BitVec 32) (crc : BitVec 7) (stop : BitVec 1) : RowBits.Statement (.cmd13 arg crc stop) :=
  RowBits.host _ _ _ _

theorem RowBits.cmd14 (arg : BitVec 32) (crc : BitVec 7) (stop : BitVec 1) : RowBits.Statement (.cmd14 arg crc stop) :=
  RowBits.host _ _ _ _

theorem RowBits.cmd15 (arg : BitVec 32) (crc : BitVec 7) (stop : BitVec 1) : RowBits.Statement (.cmd15 arg crc stop) :=
  RowBits.host _ _ _ _

theorem RowBits.cmd16 (arg : BitVec 32) (crc : BitVec 7) (stop : BitVec 1) : RowBits.Statement (.cmd16 arg crc stop) :=
  RowBits.host _ _ _ _

theorem RowBits.cmd17 (arg : BitVec 32) (crc : BitVec 7) (stop : BitVec 1) : RowBits.Statement (.cmd17 arg crc stop) :=
  RowBits.host _ _ _ _

theorem RowBits.cmd18 (arg : BitVec 32) (crc : BitVec 7) (stop : BitVec 1) : RowBits.Statement (.cmd18 arg crc stop) :=
  RowBits.host _ _ _ _

theorem RowBits.cmd19 (arg : BitVec 32) (crc : BitVec 7) (stop : BitVec 1) : RowBits.Statement (.cmd19 arg crc stop) :=
  RowBits.host _ _ _ _

theorem RowBits.cmd20 (arg : BitVec 32) (crc : BitVec 7) (stop : BitVec 1) : RowBits.Statement (.cmd20 arg crc stop) :=
  RowBits.host _ _ _ _

theorem RowBits.cmd21 (arg : BitVec 32) (crc : BitVec 7) (stop : BitVec 1) : RowBits.Statement (.cmd21 arg crc stop) :=
  RowBits.host _ _ _ _

theorem RowBits.cmd22 (arg : BitVec 32) (crc : BitVec 7) (stop : BitVec 1) : RowBits.Statement (.cmd22 arg crc stop) :=
  RowBits.host _ _ _ _

theorem RowBits.cmd23 (arg : BitVec 32) (crc : BitVec 7) (stop : BitVec 1) : RowBits.Statement (.cmd23 arg crc stop) :=
  RowBits.host _ _ _ _

theorem RowBits.cmd24 (arg : BitVec 32) (crc : BitVec 7) (stop : BitVec 1) : RowBits.Statement (.cmd24 arg crc stop) :=
  RowBits.host _ _ _ _

theorem RowBits.cmd25 (arg : BitVec 32) (crc : BitVec 7) (stop : BitVec 1) : RowBits.Statement (.cmd25 arg crc stop) :=
  RowBits.host _ _ _ _

theorem RowBits.cmd26 (arg : BitVec 32) (crc : BitVec 7) (stop : BitVec 1) : RowBits.Statement (.cmd26 arg crc stop) :=
  RowBits.host _ _ _ _

theorem RowBits.cmd27 (arg : BitVec 32) (crc : BitVec 7) (stop : BitVec 1) : RowBits.Statement (.cmd27 arg crc stop) :=
  RowBits.host _ _ _ _

theorem RowBits.cmd28 (arg : BitVec 32) (crc : BitVec 7) (stop : BitVec 1) : RowBits.Statement (.cmd28 arg crc stop) :=
  RowBits.host _ _ _ _

theorem RowBits.cmd29 (arg : BitVec 32) (crc : BitVec 7) (stop : BitVec 1) : RowBits.Statement (.cmd29 arg crc stop) :=
  RowBits.host _ _ _ _

theorem RowBits.cmd30 (arg : BitVec 32) (crc : BitVec 7) (stop : BitVec 1) : RowBits.Statement (.cmd30 arg crc stop) :=
  RowBits.host _ _ _ _

theorem RowBits.cmd31 (arg : BitVec 32) (crc : BitVec 7) (stop : BitVec 1) : RowBits.Statement (.cmd31 arg crc stop) :=
  RowBits.host _ _ _ _

theorem RowBits.cmd32 (arg : BitVec 32) (crc : BitVec 7) (stop : BitVec 1) : RowBits.Statement (.cmd32 arg crc stop) :=
  RowBits.host _ _ _ _

theorem RowBits.cmd33 (arg : BitVec 32) (crc : BitVec 7) (stop : BitVec 1) : RowBits.Statement (.cmd33 arg crc stop) :=
  RowBits.host _ _ _ _

theorem RowBits.cmd34 (arg : BitVec 32) (crc : BitVec 7) (stop : BitVec 1) : RowBits.Statement (.cmd34 arg crc stop) :=
  RowBits.host _ _ _ _

theorem RowBits.cmd35 (arg : BitVec 32) (crc : BitVec 7) (stop : BitVec 1) : RowBits.Statement (.cmd35 arg crc stop) :=
  RowBits.host _ _ _ _

theorem RowBits.cmd36 (arg : BitVec 32) (crc : BitVec 7) (stop : BitVec 1) : RowBits.Statement (.cmd36 arg crc stop) :=
  RowBits.host _ _ _ _

theorem RowBits.cmd37 (arg : BitVec 32) (crc : BitVec 7) (stop : BitVec 1) : RowBits.Statement (.cmd37 arg crc stop) :=
  RowBits.host _ _ _ _

theorem RowBits.cmd38 (arg : BitVec 32) (crc : BitVec 7) (stop : BitVec 1) : RowBits.Statement (.cmd38 arg crc stop) :=
  RowBits.host _ _ _ _

theorem RowBits.cmd39 (arg : BitVec 32) (crc : BitVec 7) (stop : BitVec 1) : RowBits.Statement (.cmd39 arg crc stop) :=
  RowBits.host _ _ _ _

theorem RowBits.cmd40 (arg : BitVec 32) (crc : BitVec 7) (stop : BitVec 1) : RowBits.Statement (.cmd40 arg crc stop) :=
  RowBits.host _ _ _ _

theorem RowBits.cmd41 (arg : BitVec 32) (crc : BitVec 7) (stop : BitVec 1) : RowBits.Statement (.cmd41 arg crc stop) :=
  RowBits.host _ _ _ _

theorem RowBits.cmd42 (arg : BitVec 32) (crc : BitVec 7) (stop : BitVec 1) : RowBits.Statement (.cmd42 arg crc stop) :=
  RowBits.host _ _ _ _

theorem RowBits.cmd43 (arg : BitVec 32) (crc : BitVec 7) (stop : BitVec 1) : RowBits.Statement (.cmd43 arg crc stop) :=
  RowBits.host _ _ _ _

theorem RowBits.cmd44 (arg : BitVec 32) (crc : BitVec 7) (stop : BitVec 1) : RowBits.Statement (.cmd44 arg crc stop) :=
  RowBits.host _ _ _ _

theorem RowBits.cmd45 (arg : BitVec 32) (crc : BitVec 7) (stop : BitVec 1) : RowBits.Statement (.cmd45 arg crc stop) :=
  RowBits.host _ _ _ _

theorem RowBits.cmd46 (arg : BitVec 32) (crc : BitVec 7) (stop : BitVec 1) : RowBits.Statement (.cmd46 arg crc stop) :=
  RowBits.host _ _ _ _

theorem RowBits.cmd47 (arg : BitVec 32) (crc : BitVec 7) (stop : BitVec 1) : RowBits.Statement (.cmd47 arg crc stop) :=
  RowBits.host _ _ _ _

theorem RowBits.cmd48 (arg : BitVec 32) (crc : BitVec 7) (stop : BitVec 1) : RowBits.Statement (.cmd48 arg crc stop) :=
  RowBits.host _ _ _ _

theorem RowBits.cmd49 (arg : BitVec 32) (crc : BitVec 7) (stop : BitVec 1) : RowBits.Statement (.cmd49 arg crc stop) :=
  RowBits.host _ _ _ _

theorem RowBits.cmd50 (arg : BitVec 32) (crc : BitVec 7) (stop : BitVec 1) : RowBits.Statement (.cmd50 arg crc stop) :=
  RowBits.host _ _ _ _

theorem RowBits.cmd51 (arg : BitVec 32) (crc : BitVec 7) (stop : BitVec 1) : RowBits.Statement (.cmd51 arg crc stop) :=
  RowBits.host _ _ _ _

theorem RowBits.cmd52 (arg : BitVec 32) (crc : BitVec 7) (stop : BitVec 1) : RowBits.Statement (.cmd52 arg crc stop) :=
  RowBits.host _ _ _ _

theorem RowBits.cmd53 (arg : BitVec 32) (crc : BitVec 7) (stop : BitVec 1) : RowBits.Statement (.cmd53 arg crc stop) :=
  RowBits.host _ _ _ _

theorem RowBits.cmd54 (arg : BitVec 32) (crc : BitVec 7) (stop : BitVec 1) : RowBits.Statement (.cmd54 arg crc stop) :=
  RowBits.host _ _ _ _

theorem RowBits.cmd55 (arg : BitVec 32) (crc : BitVec 7) (stop : BitVec 1) : RowBits.Statement (.cmd55 arg crc stop) :=
  RowBits.host _ _ _ _

theorem RowBits.cmd56 (arg : BitVec 32) (crc : BitVec 7) (stop : BitVec 1) : RowBits.Statement (.cmd56 arg crc stop) :=
  RowBits.host _ _ _ _

theorem RowBits.cmd57 (arg : BitVec 32) (crc : BitVec 7) (stop : BitVec 1) : RowBits.Statement (.cmd57 arg crc stop) :=
  RowBits.host _ _ _ _

theorem RowBits.cmd58 (arg : BitVec 32) (crc : BitVec 7) (stop : BitVec 1) : RowBits.Statement (.cmd58 arg crc stop) :=
  RowBits.host _ _ _ _

theorem RowBits.cmd59 (arg : BitVec 32) (crc : BitVec 7) (stop : BitVec 1) : RowBits.Statement (.cmd59 arg crc stop) :=
  RowBits.host _ _ _ _

theorem RowBits.cmd60 (arg : BitVec 32) (crc : BitVec 7) (stop : BitVec 1) : RowBits.Statement (.cmd60 arg crc stop) :=
  RowBits.host _ _ _ _

theorem RowBits.cmd61 (arg : BitVec 32) (crc : BitVec 7) (stop : BitVec 1) : RowBits.Statement (.cmd61 arg crc stop) :=
  RowBits.host _ _ _ _

theorem RowBits.cmd62 (arg : BitVec 32) (crc : BitVec 7) (stop : BitVec 1) : RowBits.Statement (.cmd62 arg crc stop) :=
  RowBits.host _ _ _ _

theorem RowBits.cmd63 (arg : BitVec 32) (crc : BitVec 7) (stop : BitVec 1) : RowBits.Statement (.cmd63 arg crc stop) :=
  RowBits.host _ _ _ _

theorem RowBits.rsp (idx : BitVec 6) (arg : BitVec 32) (crc : BitVec 7) (stop : BitVec 1) : RowBits.Statement (.rsp idx arg crc stop) :=
  by simp [RowBits.Statement, rowOf, Row.fits, encode, responseFrame]

theorem RowBits.rspLong (idx : BitVec 6) (hi : BitVec 64) (lo : BitVec 63) (stop : BitVec 1) : RowBits.Statement (.rspLong idx hi lo stop) :=
  by simp [RowBits.Statement, rowOf, Row.fits, encode]

theorem RowBits.data1 (d : Byte) : RowBits.Statement (.data1 d) :=
  trivial

theorem RowBits.data4 (d : Byte) : RowBits.Statement (.data4 d) :=
  trivial

end Sys2Proof.Laws
end

