-- ==== Sys2Proof/Tests/Slice0.lean ====
section
/-! SUPPORT. Tests. Words are written out from the encodings of spec/30_encoding.md and spec/opcode_table.json; expected
results are those of spec/95_test_vectors.md, whose vector each test names, or of the worked examples of the rules. The
theorems `test_witness_...` show states and operands that meet all the hypotheses of an obligation together. -/

namespace Sys2Proof.Tests

open Sys2Proof Sys2Proof.Machine

set_option Elab.async false

/-! Ill-formed terms: the don't-care bits of a control word name a `frame_state` (R59), and the codes 6 and 7 name none. -/

theorem test_wf_refuses_locate : Instr.wf (.locate 6) = false := by decide
theorem test_wf_refuses_arbitrate : Instr.wf (.arbitrate 7) = false := by decide
theorem test_wf_refuses_extractByte : Instr.wf (.extractByte 6) = false := by decide
theorem test_wf_refuses_halt : Instr.wf (.halt 7) = false := by decide

/-! Decoding: one word for every constructor. -/

/-- Each of the units decodes, in the context, to the instruction beside it. -/
def decodesTo (ctx : BusContext) (rows : List (BusUnit × Instr)) : Bool :=
  rows.all (fun r =>
    match decode ctx r.1 with
    | .ok i => i == r.2
    | .error _ => false)

/-- No host command seen, one data line. -/
def fresh : BusContext := ⟨0, false, 1⟩

theorem test_decode_control : decodesTo fresh
    [(.control 0b000000, .locate 0), (.control 0b001010, .arbitrate 2), (.control 0b010101, .extractByte 5),
     (.control 0b011000, .fsmStartBit), (.control 0b011001, .fsmDirection), (.control 0b011010, .fsmCommandField),
     (.control 0b011011, .fsmArgumentField), (.control 0b011100, .fsmCrc7), (.control 0b011101, .fsmStop),
     (.control 0b100000, .halt 0)] = true := by decide +kernel

theorem test_decode_cmd_0_15 : decodesTo fresh
    [(.frame48 0x408000000006, .cmd0 0x80000000 0x03 0),
     (.frame48 0x418101010111, .cmd1 0x81010101 0x08 1),
     (.frame48 0x42820202021A, .cmd2 0x82020202 0x0D 0),
     (.frame48 0x438303030325, .cmd3 0x83030303 0x12 1),
     (.frame48 0x44840404042E, .cmd4 0x84040404 0x17 0),
     (.frame48 0x458505050539, .cmd5 0x85050505 0x1C 1),
     (.frame48 0x468606060642, .cmd6 0x86060606 0x21 0),
     (.frame48 0x47870707074D, .cmd7 0x87070707 0x26 1),
     (.frame48 0x488808080856, .cmd8 0x88080808 0x2B 0),
     (.frame48 0x498909090961, .cmd9 0x89090909 0x30 1),
     (.frame48 0x4A8A0A0A0A6A, .cmd10 0x8A0A0A0A 0x35 0),
     (.frame48 0x4B8B0B0B0B75, .cmd11 0x8B0B0B0B 0x3A 1),
     (.frame48 0x4C8C0C0C0C7E, .cmd12 0x8C0C0C0C 0x3F 0),
     (.frame48 0x4D8D0D0D0D89, .cmd13 0x8D0D0D0D 0x44 1),
     (.frame48 0x4E8E0E0E0E92, .cmd14 0x8E0E0E0E 0x49 0),
     (.frame48 0x4F8F0F0F0F9D, .cmd15 0x8F0F0F0F 0x4E 1)] = true := by decide +kernel

theorem test_decode_cmd_16_31 : decodesTo fresh
    [(.frame48 0x5090101010A6, .cmd16 0x90101010 0x53 0),
     (.frame48 0x5191111111B1, .cmd17 0x91111111 0x58 1),
     (.frame48 0x5292121212BA, .cmd18 0x92121212 0x5D 0),
     (.frame48 0x5393131313C5, .cmd19 0x93131313 0x62 1),
     (.frame48 0x5494141414CE, .cmd20 0x94141414 0x67 0),
     (.frame48 0x5595151515D9, .cmd21 0x95151515 0x6C 1),
     (.frame48 0x5696161616E2, .cmd22 0x96161616 0x71 0),
     (.frame48 0x5797171717ED, .cmd23 0x97171717 0x76 1),
     (.frame48 0x5898181818F6, .cmd24 0x98181818 0x7B 0),
     (.frame48 0x599919191901, .cmd25 0x99191919 0x00 1),
     (.frame48 0x5A9A1A1A1A0A, .cmd26 0x9A1A1A1A 0x05 0),
     (.frame48 0x5B9B1B1B1B15, .cmd27 0x9B1B1B1B 0x0A 1),
     (.frame48 0x5C9C1C1C1C1E, .cmd28 0x9C1C1C1C 0x0F 0),
     (.frame48 0x5D9D1D1D1D29, .cmd29 0x9D1D1D1D 0x14 1),
     (.frame48 0x5E9E1E1E1E32, .cmd30 0x9E1E1E1E 0x19 0),
     (.frame48 0x5F9F1F1F1F3D, .cmd31 0x9F1F1F1F 0x1E 1)] = true := by decide +kernel

theorem test_decode_cmd_32_47 : decodesTo fresh
    [(.frame48 0x60A020202046, .cmd32 0xA0202020 0x23 0),
     (.frame48 0x61A121212151, .cmd33 0xA1212121 0x28 1),
     (.frame48 0x62A22222225A, .cmd34 0xA2222222 0x2D 0),
     (.frame48 0x63A323232365, .cmd35 0xA3232323 0x32 1),
     (.frame48 0x64A42424246E, .cmd36 0xA4242424 0x37 0),
     (.frame48 0x65A525252579, .cmd37 0xA5252525 0x3C 1),
     (.frame48 0x66A626262682, .cmd38 0xA6262626 0x41 0),
     (.frame48 0x67A72727278D, .cmd39 0xA7272727 0x46 1),
     (.frame48 0x68A828282896, .cmd40 0xA8282828 0x4B 0),
     (.frame48 0x69A9292929A1, .cmd41 0xA9292929 0x50 1),
     (.frame48 0x6AAA2A2A2AAA, .cmd42 0xAA2A2A2A 0x55 0),
     (.frame48 0x6BAB2B2B2BB5, .cmd43 0xAB2B2B2B 0x5A 1),
     (.frame48 0x6CAC2C2C2CBE, .cmd44 0xAC2C2C2C 0x5F 0),
     (.frame48 0x6DAD2D2D2DC9, .cmd45 0xAD2D2D2D 0x64 1),
     (.frame48 0x6EAE2E2E2ED2, .cmd46 0xAE2E2E2E 0x69 0),
     (.frame48 0x6FAF2F2F2FDD, .cmd47 0xAF2F2F2F 0x6E 1)] = true := by decide +kernel

theorem test_decode_cmd_48_63 : decodesTo fresh
    [(.frame48 0x70B0303030E6, .cmd48 0xB0303030 0x73 0),
     (.frame48 0x71B1313131F1, .cmd49 0xB1313131 0x78 1),
     (.frame48 0x72B2323232FA, .cmd50 0xB2323232 0x7D 0),
     (.frame48 0x73B333333305, .cmd51 0xB3333333 0x02 1),
     (.frame48 0x74B43434340E, .cmd52 0xB4343434 0x07 0),
     (.frame48 0x75B535353519, .cmd53 0xB5353535 0x0C 1),
     (.frame48 0x76B636363622, .cmd54 0xB6363636 0x11 0),
     (.frame48 0x77B73737372D, .cmd55 0xB7373737 0x16 1),
     (.frame48 0x78B838383836, .cmd56 0xB8383838 0x1B 0),
     (.frame48 0x79B939393941, .cmd57 0xB9393939 0x20 1),
     (.frame48 0x7ABA3A3A3A4A, .cmd58 0xBA3A3A3A 0x25 0),
     (.frame48 0x7BBB3B3B3B55, .cmd59 0xBB3B3B3B 0x2A 1),
     (.frame48 0x7CBC3C3C3C5E, .cmd60 0xBC3C3C3C 0x2F 0),
     (.frame48 0x7DBD3D3D3D69, .cmd61 0xBD3D3D3D 0x34 1),
     (.frame48 0x7EBE3E3E3E72, .cmd62 0xBE3E3E3E 0x39 0),
     (.frame48 0x7FBF3F3F3F7D, .cmd63 0xBF3F3F3F 0x3E 1)] = true := by decide +kernel

/-- After CMD55 (R59 (b), R63). -/
theorem test_decode_acmd : decodesTo ⟨55, true, 1⟩
    [(.frame48 0x4605FA05A727, .acmd6 0x05FA05A7 0x13 1),
     (.frame48 0x4D0CF30C3E50, .acmd13 0x0CF30C3E 0x28 0),
     (.frame48 0x5110EF100268, .acmd17 0x10EF1002 0x34 0),
     (.frame48 0x5211EE10F36F, .acmd18 0x11EE10F3 0x37 1),
     (.frame48 0x5312ED11E474, .acmd19 0x12ED11E4 0x3A 0),
     (.frame48 0x5413EC12D57B, .acmd20 0x13EC12D5 0x3D 1),
     (.frame48 0x5514EB13C680, .acmd21 0x14EB13C6 0x40 0),
     (.frame48 0x5615EA14B787, .acmd22 0x15EA14B7 0x43 1),
     (.frame48 0x5716E915A88C, .acmd23 0x16E915A8 0x46 0),
     (.frame48 0x5817E8169993, .acmd24 0x17E81699 0x49 1),
     (.frame48 0x5918E7178A98, .acmd25 0x18E7178A 0x4C 0),
     (.frame48 0x6625DA23C7E7, .acmd38 0x25DA23C7 0x73 1),
     (.frame48 0x6726D924B8EC, .acmd39 0x26D924B8 0x76 0),
     (.frame48 0x6827D825A9F3, .acmd40 0x27D825A9 0x79 1),
     (.frame48 0x6928D7269AF8, .acmd41 0x28D7269A 0x7C 0),
     (.frame48 0x6A29D6278BFF, .acmd42 0x29D6278B 0x7F 1),
     (.frame48 0x6B2AD5287C04, .acmd43 0x2AD5287C 0x02 0),
     (.frame48 0x6C2BD4296D0B, .acmd44 0x2BD4296D 0x05 1),
     (.frame48 0x6D2CD32A5E10, .acmd45 0x2CD32A5E 0x08 0),
     (.frame48 0x6E2DD22B4F17, .acmd46 0x2DD22B4F 0x0B 1),
     (.frame48 0x6F2ED12C401C, .acmd47 0x2ED12C40 0x0E 0),
     (.frame48 0x702FD02D3123, .acmd48 0x2FD02D31 0x11 1),
     (.frame48 0x7130CF2E2228, .acmd49 0x30CF2E22 0x14 0),
     (.frame48 0x7332CD300434, .acmd51 0x32CD3004 0x1A 0)] = true := by decide +kernel

/-- The words of 95_test_vectors.md section 2, with their fields: CMD0(0), CMD17(0x1000), CMD55(0), RSP(17, 0x900). -/
theorem test_decode_bench_words : decodesTo fresh
    [(.frame48 0x400000000095, .cmd0 0 0x4A 1), (.frame48 0x510000100027, .cmd17 0x1000 0x13 1),
     (.frame48 0x770000000065, .cmd55 0 0x32 1), (.frame48 0x110000090067, .rsp 17 0x900 0x33 1)] = true := by
  decide +kernel

/-- After CMD55: CMD41 is ACMD41; CMD55 and CMD7 stay plain commands (T3, S2, S2b, S2c). -/
theorem test_decode_after_cmd55 : decodesTo ⟨55, true, 0⟩
    [(.frame48 0x6940300000AB, .acmd41 0x40300000 0x55 1), (.frame48 0x770000000065, .cmd55 0 0x32 1),
     (.frame48 0x470000000083, .cmd7 0 0x41 1)] = true := by decide +kernel

/-- After CMD2: the long response of S4; its payload words are `0x0123456789ABCDEF` and `0xFEDCBA987654324E`. -/
theorem test_decode_rsp_long : decodesTo ⟨2, true, 0⟩
    [(.frame136 0x3F0123456789ABCDEFFEDCBA987654324F, .rspLong 63 0x0123456789ABCDEF 0x7F6E5D4C3B2A1927 1)] = true := by
  decide +kernel

theorem test_decode_data1 : decodesTo ⟨0, false, 1⟩ [(.unit1 0xA5, .data1 0xA5)] = true := by decide +kernel
theorem test_decode_data4 : decodesTo ⟨0, false, 4⟩ [(.unit4 0x3C, .data4 0x3C)] = true := by decide +kernel

/-- The host's view of the decoder. -/
theorem test_decodeTableWord : decodeTableWord 48 0x510000100027 = some (.cmd17 0x1000 0x13 1) ∧
    decodeTableWord 8 0b011101 = some .fsmStop ∧ decodeTableWord 8 0b101000 = none := by decide +kernel

/-! Cursors (V40, line `init = 1; edges = [10, 11, 20]`, 30 samples). -/

def v40 : Line := ⟨true, [10, 11, 20]⟩

theorem test_v40_next_edge : (Cursor.atStart v40).nextEdge = .ok ⟨v40, 10, false⟩ ∧
    (⟨v40, 10, false⟩ : Cursor).peek = .ok 11 ∧ (⟨v40, 25, false⟩ : Cursor).nextEdge = .error .endOfStream := by
  refine ⟨?_, ?_, ?_⟩ <;> rfl

theorem test_v40_absolute : (Cursor.atStart v40).toAbs 30 15 = .ok ⟨v40, 15, true⟩ ∧
    (⟨v40, 15, true⟩ : Cursor).toAbs 30 14 = .error .outOfOrderSeek ∧
    (⟨v40, 25, false⟩ : Cursor).toAbs 30 30 = .error .endOfStream := by
  refine ⟨?_, ?_, ?_⟩ <;> rfl

theorem test_v40_would_cross : (Cursor.atStart v40).wouldCross 9 = false ∧ (Cursor.atStart v40).wouldCross 10 = true ∧
    (⟨v40, 15, true⟩ : Cursor).wouldCross 14 = false := by decide

/-! Small states. -/

/-- The next state satisfies a test. -/
def after (o : Host.Outcome State Fault Refusal) (f : State → Bool) : Bool :=
  match o with
  | .next t => f t
  | .fault _ => false
  | .refused _ => false

/-- The start of a run on a capture, sampling on rising edges, nothing suppressed. -/
def run0 (n : Nat) (clk cmd : Line) (dat : DataSet Line) : State := State.initial .reset n clk cmd dat []

/-- A state with its clock and data cursors brought to `p`, in the given phase and sub-state. -/
def placedAt (ph : Phase) (f : FrameState) (p : Nat) (s : State) : State :=
  { s with phase := ph, frameState := f, clk := .placed s.clk.line p, dat := s.dat.map (fun d => .placed d.line p) }

/-- A state inside an exchange: every cursor on the midpoint `p`. -/
def inExchange (f : FrameState) (p : Nat) (s : State) : State :=
  { placedAt .analyzeCommand f p s with cmd := .placed s.cmd.line p, cmdStartSample := 141, cmdStartValid := true }

/-- A line that stays at level 1. -/
def idle : Line := ⟨true, []⟩

/-- The command line of S1: CMD0(0) at cycle 4. -/
def s1Cmd : Line := ⟨true, [141, 151, 161, 541, 551, 571, 581, 591, 601, 611]⟩

/-- Five cycles of the bench clock, the first beginning at the boundary edge `a`. -/
def window (a : Nat) : Line := ⟨true, (List.range 5).flatMap (fun k => [a + 10 * k, a + 5 + 10 * k])⟩

/-- The capture of S1, with five cycles of its clock from `a` on. -/
def s1From (a : Nat) : State := run0 900 (window a) s1Cmd .absent

/-- The capture of S1 inside the exchange, every cursor on the clock edge `p`. -/
def inS1 (f : FrameState) (p : Nat) : State := inExchange f p (s1From (p / 10 * 10))

/-- The capture of S1 at the start of the run. -/
def s1 : State := s1From 140

/-- DAT0 of P3: a start bit, 0xA5, 0xC3, then 1, 0, 1, 1. -/
def p3Dat : Line := ⟨true, [141, 151, 161, 171, 181, 201, 211, 221, 251, 291, 321, 331]⟩

/-- The capture of P3, CMD12(0) at cycle 25, with the first 30 cycles of its clock. -/
def p3 : State := run0 1400 (benchClock .rising 30) ⟨true, [351, 361, 371, 391, 411, 761, 781, 821]⟩ (.one p3Dat)

/-- P3 after LOCATE. -/
def p3Located : State :=
  { p3 with phase := .findDataStart, cmd := .placed p3.cmd.line 351, cmdStartSample := 351, cmdStartValid := true }

/-- P3 with the extractor at the sampling edge `p`. -/
def p3Read (p start : Nat) : State := { placedAt .readData .startBit p p3Located with byteStart := start }

/-- The four data lines of S8: start cycle 4, then `0xA5`, `0x3C`, `0x96`, `0x0F`. -/
def s8 : State := placedAt .readData .startBit 155
  (run0 500 (benchClock .rising 30) idle
    (.four (benchLine [false, false, true, true, false, true, false, false, true])
      (benchLine [false, true, false, true, false, false, true, false, true])
      (benchLine [false, false, true, false, true, false, true, false, true])
      (benchLine [false, true, false, false, true, true, false, false, true])))

/-- S9: one line, no command; the extractor at the first sampling edge. -/
def s9 : State := { placedAt .readData .startBit 155
  (run0 500 (benchClock .rising 30) idle (.one ⟨true, [141, 151, 161, 171, 181, 201, 211, 221]⟩)) with byteStart := 155 }

/-- A capture of `n` samples with a clock that never moves, to test LOCATE (V41). -/
def v41 (init : Bool) (edges : List Nat) : State := run0 200 idle ⟨init, edges⟩ .absent

/-! One step of each control row. -/

/-- V41.3: the pulse at 30 is one sample wide and is rejected, the one at 50 is accepted. -/
theorem test_locate_noise : after (exec (.locate 0) (v41 true [30, 31, 50, 52]))
    (fun t => t.cmdStartSample == 50 && t.cmdStartValid && t.cmd.pos == 50 && t.phase == .findDataStart) = true := by
  decide +kernel

/-- V41.5 (S20): the line falls and stays low. -/
theorem test_locate_endOfStream : after (exec (.locate 0) (v41 true [30]))
    (fun t => t.cmd.pos == 30 && t.out == [.terminated .endOfStream]) = true := by decide +kernel

/-- P3, iteration 2: the data start at 141, the alignment to 155 and the first byte. -/
theorem test_arbitrate_data : after (exec (.arbitrate 0) p3Located)
    (fun t => t.dataStartSample == 141 && t.dataBlockStartSample == 155 && t.byteStart == 230 && t.unitCount == 1 &&
      visible t.out == [.addFrame ⟨.dataByte, 155, 229, 0xA5, 0, 0⟩, .progress 235]) = true := by decide +kernel

/-- S13b: two lines rise at 146, passed over; one falls at 300. -/
theorem test_arbitrate_skips_rising : (match
    ({ run0 500 (benchClock .rising 30) ⟨true, [400, 420]⟩ (.four ⟨false, [146]⟩ ⟨false, [146, 300]⟩ idle idle) with
        cmdStartSample := 400, cmdStartValid := true } : State).arbitrate with
    | .ok a t => a == .dataPresent && t.dataStartSample == 300 && t.clk.pos == 146
    | .signal _ _ => false) = true := by decide +kernel

/-- P3, iteration 3: the second byte. -/
theorem test_extract_byte : after (exec (.extractByte 0) (p3Read 235 230))
    (fun t => visible t.out == [.addFrame ⟨.dataByte, 230, 309, 0xC3, 0, 0⟩, .progress 315] && t.clk.pos == 315) = true := by
  decide +kernel

/-- P3, iteration 4: the command interrupts after four bits. -/
theorem test_extract_interrupted : after (exec (.extractByte 0) { p3Read 315 310 with packetOpen := true })
    (fun t => visible t.out == [.commitPacket] && t.dnb == 4 && t.clk.pos == 355 && t.phase == .analyzeCommand) = true := by
  decide +kernel

/-- P3, iteration 5: the StartBit cycle in place. -/
theorem test_startBit_in_place : after (exec .fsmStartBit (placedAt .analyzeCommand .startBit 355 p3Located))
    (fun t => visible t.out == [.addFrame ⟨.start, 351, 359, 0, 0, 0⟩] && t.frameState == .direction) = true := by
  decide +kernel

/-- S6: the pulse at 50 ends before the first sampling edge after it. -/
theorem test_startBit_soft_reset : after
    (exec .fsmStartBit { run0 960 (window 100) ⟨true, [30, 31, 50, 52, 60, 63, 141]⟩ .absent with
      phase := .analyzeCommand, cmd := ⟨⟨true, [30, 31, 50, 52, 60, 63, 141]⟩, 50, false⟩
      cmdStartSample := 50, cmdStartValid := true })
    (fun t => visible t.out == [.progress 105] && t.cmd.pos == 105 && t.phase == .findCmdStart) = true := by decide +kernel

/-- S1: `Direction[150,159] 1`. -/
theorem test_direction : after (exec .fsmDirection { inS1 .direction 145 with fieldStart := 150 })
    (fun t => visible t.out == [.addFrame ⟨.direction, 150, 159, 1, 0, 0⟩] && t.countdown == 6 && t.dir) = true := by
  decide +kernel

/-- S2c: 6 is in the ACMD set, but the preceding host command is 7. -/
theorem test_commandField_plain : after
    (exec .fsmCommandField { inS1 .commandField 205 with
      fieldStart := 160, countdown := 1, acc := 3, dir := true, lastHostCmd := 7, lastHostCmdValid := true })
    (fun t => visible t.out == [.addFrame ⟨.command, 160, 219, 6, 0, 0⟩] && t.lastHostCmd == 6) = true := by
  decide +kernel

/-- S4: the response after CMD2 is long and carries 2 in its flags. -/
theorem test_commandField_response : after
    (exec .fsmCommandField { inS1 .commandField 205 with
      fieldStart := 160, countdown := 1, acc := 31, lastHostCmd := 2, lastHostCmdValid := true })
    (fun t => visible t.out == [.addFrame ⟨.response, 160, 219, 62, 0, 2⟩] && t.respLong && t.countdown == 127) = true := by
  decide +kernel

/-- S1: `Argument[220,539] 0`. -/
theorem test_argument : after
    (exec .fsmArgumentField { inS1 .argumentField 525 with fieldStart := 220, countdown := 1, nbits := 31 })
    (fun t => visible t.out == [.addFrame ⟨.argument, 220, 539, 0, 0, 0⟩] && t.frameState == .crc7) = true := by
  decide +kernel

/-- R102 on the last bit of a long argument: a 0 is appended. -/
theorem test_long_argument : after
    (exec .fsmArgumentField { inS1 .argumentField 525 with
      fieldStart := 220, countdown := 1, nbits := 126, respLong := true, hi := 5, acc := 3 })
    (fun t => visible t.out == [.addFrame ⟨.longArgument, 220, 539, 5, 12, 0⟩] && t.frameState == .stop) = true := by
  decide +kernel

/-- S1: `CRC7[540,609] 0x4A`. -/
theorem test_crc7 : after
    (exec .fsmCrc7 { inS1 .crc7 595 with fieldStart := 540, countdown := 1, acc := 0x25 })
    (fun t => visible t.out == [.addFrame ⟨.crc7, 540, 609, 0x4A, 0, 0⟩] && t.frameState == .stop) = true := by
  decide +kernel

/-- S1: `Stop[610,619]`, `Commit`, `Progress(615)`. -/
theorem test_stop : after (exec .fsmStop { inS1 .stop 605 with fieldStart := 610, packetOpen := true })
    (fun t => visible t.out == [.addFrame ⟨.stop, 610, 619, 0, 0, 0⟩, .commitPacket, .progress 615]
      && t.phase == .findCmdStart) = true := by decide +kernel

theorem test_halt : step { s1 with phase := .terminated } = .next { s1 with phase := .terminated } := by rfl

/-! One step of the bus rows, on the bench capture that carries the word. -/

/-- S1: the packet of CMD0(0), and the registers it leaves. -/
theorem test_cmd0 : after (step (State.reset.withFetchWord 48 0x400000000095))
    (fun t => visible t.out ==
      [.addFrame ⟨.start, 141, 149, 0, 0, 0⟩, .addFrame ⟨.direction, 150, 159, 1, 0, 0⟩,
       .addFrame ⟨.command, 160, 219, 0, 0, 0⟩, .addFrame ⟨.argument, 220, 539, 0, 0, 0⟩,
       .addFrame ⟨.crc7, 540, 609, 0x4A, 0, 0⟩, .addFrame ⟨.stop, 610, 619, 0, 0, 0⟩, .commitPacket, .progress 615]
      && t.acc == 0x4A && t.lastHostCmdValid && t.fieldStart == 620) = true := by decide +kernel

/-- S2, third packet: ACMD41 after CMD55. -/
theorem test_acmd41 : after
    (step { State.reset.load (.frame48 0x6940300000AB) with lastHostCmd := 55, lastHostCmdValid := true })
    (fun t => (framesOf t.out).map (fun f => (f.kind, f.data1)) ==
        [(.start, 0), (.direction, 1), (.appCommand, 0x29), (.argument, 0x40300000), (.crc7, 0x55), (.stop, 0)]
      && t.lastHostCmd == 41) = true := by decide +kernel

/-- S5: a response with no host command before it has `0xFF` in its flags and is short. -/
theorem test_rsp : after (step (State.reset.withFetchWord 48 0x091234567833))
    (fun t => (framesOf t.out).map (fun f => (f.kind, f.data1, f.flags)) ==
        [(.start, 0, 0), (.direction, 0, 0), (.response, 9, 0xFF), (.argument, 0x12345678, 0), (.crc7, 0x19, 0),
         (.stop, 0, 0)] && !t.lastHostCmdValid) = true := by decide +kernel

/-- S4: the long response after CMD2. -/
theorem test_rsp_long : after (step (State.reset.withFetchWord 136 0x3F0123456789ABCDEFFEDCBA987654324F))
    (fun t => (framesOf t.out).map (fun f => (f.kind, f.data1, f.data2, f.flags)) ==
        [(.start, 0, 0, 0), (.direction, 0, 0, 0), (.response, 0x3F, 0, 2),
         (.longArgument, 0x0123456789ABCDEF, 0xFEDCBA987654324E, 0), (.stop, 0, 0, 0)]
      && t.nbits == 127 && t.phase == .findCmdStart) = true := by decide +kernel

/-- S9: `DataByte[155,229] 0xA5`. -/
theorem test_data1 : after (exec (.data1 0xA5) s9)
    (fun t => visible t.out == [.addFrame ⟨.dataByte, 155, 229, 0xA5, 0, 0⟩, .progress 235]) = true := by decide +kernel

/-- S8: `DataByte[155,169] 0xA5`, as a unit and as sampled. -/
theorem test_data4 : after (exec (.data4 0xA5) { s8 with byteStart := 155 })
    (fun t => visible t.out == [.addFrame ⟨.dataByte, 155, 169, 0xA5, 0, 0⟩, .progress 175]) = true := by decide +kernel

theorem test_extract_four_lines : after (exec (.extractByte 0) { s8 with byteStart := 155 })
    (fun t => visible t.out == [.addFrame ⟨.dataByte, 155, 169, 0xA5, 0, 0⟩, .progress 175]) = true := by decide +kernel

/-- Every table word runs as the first instruction after reset: a control word, and a byte above the control words. -/
theorem test_withFetchWord : after (step (State.reset.withFetchWord 8 0b010000)) (fun _ => true) = true ∧
    after (step (State.reset.withFetchWord 8 0xA5)) (fun t => (framesOf t.out).map (·.data1) == [0xA5]) = true := by
  decide +kernel

/-- From reset: LOCATE finds nothing, ARBITRATE finds nothing, the run is exhausted (log 9). -/
theorem test_reset_run : after (Host.Core.run core 2 State.reset)
    (fun t => t.out == [.terminated .exhausted] && t.phase == .terminated) = true := by decide +kernel

/-- R59 (b), R60: a presented frame with start bit 1 is a soft reset; a reserved control word acts as HALT (U12). -/
theorem test_unmatched : after (step { inS1 .startBit 155 with presented := some (.frame48 0xC00000000095) })
      (fun t => visible t.out == [.progress 155] && t.phase == .findCmdStart) = true ∧
    after (step { s1 with presented := some (.control 0b011110) }) (fun t => t == s1) = true := by decide +kernel

/-- R61 (a): after CMD2 the FSM takes the 48 bits of a short response for the first of 136. -/
theorem test_unmatched_length : after
    (step { State.reset.load (.frame48 0x110000090067) with lastHostCmd := 2, lastHostCmdValid := true })
    (fun t => (framesOf t.out).map (·.kind) == [.start, .direction, .response] && t.respLong && t.countdown == 87
      && t.frameState == .argumentField && t.phase == .analyzeCommand) = true := by decide +kernel

/-! The configuration check (V60). -/

def v60 (clk cmd : Nat) (d0 d1 d2 d3 : Option Nat) : HostRequest :=
  ⟨.rising, false, false, clk, cmd, d0, d1, d2, d3⟩

def v60Capture : Capture := ⟨30, v40, idle, idle, idle, idle, idle⟩

theorem test_v60_9 : configure (v60 0 0 (some 2) (some 3) none none) v60Capture [] =
    .fault (.configError .invalidDataLineCount) := by rfl

theorem test_v60_8 : configure (v60 0 1 (some 2) (some 3) (some 4) (some 2)) v60Capture [] =
    .fault (.configError .overlappingChannels) := by rfl

/-! Witnesses: hypotheses of the obligations met together. -/

theorem test_witness_DecodeOfEncode : Instr.wf (.acmd41 1 2 1) = true ∧ (Instr.acmd41 1 2 1).contextHolds ⟨55, true, 0⟩ = true
    ∧ (Instr.cmd41 1 2 1).contextHolds fresh = true := by decide +kernel

theorem test_witness_EncodeOfDecode : decode ⟨0, false, 4⟩ (.unit4 7) = .ok (.data4 7) := by rfl

theorem test_witness_StepRunsTheDecodedInstruction :
    s1.cancelled = false ∧ Instr.wf (.locate 0) = true ∧
      decode s1.context (s1.presented.getD (.control (controlWord s1.phase s1.frameState))) = .ok (.locate 0) := by
  refine ⟨?_, ?_, ?_⟩ <;> rfl

theorem test_witness_StepRunsThePresentedUnit :
    decode s1.context (({ s1 with presented := some (.frame48 0x400000000095) } : State).presented.getD (.control 0)) =
      .ok (.cmd0 0 0x4A 1) := by rfl

theorem test_witness_CancelRequestEndsTheRun :
    s1.phase ≠ .terminated ∧ ({ s1 with cancelRequests := [true] } : State).cancelRequests.headD false = true := by decide

theorem test_witness_LineLevel : v40.wf 30 = true ∧ 20 ∈ v40.edges := by decide

theorem test_witness_CursorLevel :
    v40.wf 30 = true ∧ (Cursor.atStart v40).nextEdge = .ok ⟨v40, 10, false⟩ ∧
      (Cursor.atStart v40).level = xor v40.init ((v40.edges.filter (· ≤ 0)).length % 2 == 1) := by
  refine ⟨?_, ?_, ?_⟩ <;> rfl

/-- With a transition ahead, and with none; targets behind, ahead and beyond the capture. -/
theorem test_witness_CursorOperations :
    (Cursor.placed v40 10).wf 30 = true ∧ v40.nextAfter 10 11 = true ∧
      (Cursor.placed v40 20).wf 30 = true ∧ (∀ q ∈ v40.edges, q ≤ 20) ∧ 19 < (Cursor.placed v40 20).pos ∧
      (Cursor.placed v40 20).pos ≤ 29 ∧ (Cursor.placed v40 20).pos ≤ 30 := by decide

/-- V41.3 and, at the narrowest accepted width, V41.8. -/
theorem test_witness_LocateAccepts :
    let s := v41 true [30, 31, 50, 52]
    s.cmd.wf s.nSamples = true ∧ s.cmd.pos < 50 ∧ s.cmd.line.pulse 50 52 = true ∧ 1 < 52 - 50 ∧
      (∀ g h, s.cmd.pos < g → g < 50 → s.cmd.line.pulse g h = true → h - g ≤ 1) := by
  refine ⟨by decide, by decide, by decide, by decide, ?_⟩
  intro g h _ hg hp
  simp only [Line.pulse, Bool.and_eq_true, Line.nextAfter, beq_iff_eq, List.contains_iff_mem] at hp
  obtain ⟨⟨hm, hl⟩, hn⟩ := hp
  have hm' : g = 30 ∨ g = 31 ∨ g = 50 ∨ g = 52 := by simpa [v41, run0, State.initial, Cursor.atStart] using hm
  obtain rfl | rfl | rfl | rfl := hm'
  · have : some 31 = some h := hn
    cases this
    decide
  · exact absurd hl (by decide)
  · omega
  · omega

/-- V41.4; and V41.1, with nothing ahead. -/
theorem test_witness_LocateFindsNone :
    (v41 true [30, 31]).cmd.wf 200 = true ∧
      (∀ g ∈ (v41 true [30, 31]).cmd.line.edges, 0 < g → (v41 true [30, 31]).cmd.line.levelAt g = false →
        ∃ h, (v41 true [30, 31]).cmd.line.nextAfter g h = true ∧ h - g ≤ 1) ∧
      (v41 true []).cmd.wf 200 = true ∧ (v41 true []).cmd.line.edges = [] := by
  refine ⟨by decide, ?_, by decide, rfl⟩
  intro g hg _ hl
  have hg' : g = 30 ∨ g = 31 := by simpa [v41, run0, State.initial, Cursor.atStart] using hg
  obtain rfl | rfl := hg'
  · exact ⟨31, by decide, by decide⟩
  · exact absurd hl (by decide)

/-- V41.5. -/
theorem test_witness_LocateEnds :
    let s := v41 true [20, 21, 30]
    s.cmd.wf s.nSamples = true ∧ s.cmd.pos < 30 ∧ 30 ∈ s.cmd.line.edges ∧ s.cmd.line.levelAt 30 = false ∧
      (∀ q ∈ s.cmd.line.edges, q ≤ 30) ∧
      (∀ g h, s.cmd.pos < g → g < 30 → s.cmd.line.pulse g h = true → h - g ≤ 1) := by
  refine ⟨by decide, by decide, by decide, by decide, by decide, ?_⟩
  intro g h _ hg hp
  simp only [Line.pulse, Bool.and_eq_true, Line.nextAfter, beq_iff_eq, List.contains_iff_mem] at hp
  obtain ⟨⟨hm, hl⟩, hn⟩ := hp
  have hm' : g = 20 ∨ g = 21 ∨ g = 30 := by simpa [v41, run0, State.initial, Cursor.atStart] using hm
  obtain rfl | rfl | rfl := hm'
  · have : some 21 = some h := hn
    cases this
    decide
  · exact absurd hl (by decide)
  · omega

/-- S13a: two lines at the same edge, one of them high. -/
theorem test_witness_TieBreak :
    let s : State := { run0 500 (benchClock .rising 30) ⟨true, [400, 420]⟩ (.four ⟨false, [146]⟩ ⟨true, [146, 300]⟩ idle idle) with
      cmdStartSample := 400, cmdStartValid := true }
    (146, true) ∈ s.candidates ∧ (146, false) ∈ s.candidates ∧ ∀ x ∈ s.candidates, 146 ≤ x.1 := by decide +kernel

/-- P3 (alignment at V42.1), and S13d with the edge exactly at the bound. -/
theorem test_witness_ArbitrateStarts :
    p3Located.cursorsWf = true ∧ p3Located.dataAligned = true ∧ p3Located.firstDataFall 141 = true ∧
      p3Located.cmdStartValid = true ∧ 141 ≤ p3Located.cmdStartSample ∧ p3Located.alignedAt 141 155 = true ∧
      ({ p3Located with cmdStartSample := 141 } : State).firstDataFall 141 = true := by decide +kernel

/-- With a command start (S13f), without one (S13h), and without a data line (S13g). -/
theorem test_witness_ArbitrateWithoutData :
    let s : State := run0 500 (benchClock .rising 30) idle (.one ⟨true, [401]⟩)
    (s.cursorsWf = true ∧ s.dataAligned = true ∧
      ({ s with cmdStartSample := 400, cmdStartValid := true } : State).noDataFall = true) ∧
    (run0 500 (benchClock .rising 30) idle (.one idle)).noDataFall = true ∧ s1.noDataFall = true ∧
      s1.cursorsWf = true := by decide +kernel

/-- From a sampling edge, and from a boundary edge. -/
theorem test_witness_BusCycle :
    (inS1 .direction 145).cycleAt 155 160 = true ∧ (inS1 .direction 150).cycleAt 155 160 = true := by
  decide +kernel

/-- The three cases of R96: behind the command start, in place, on a boundary edge; the first also at the exact start. -/
theorem test_witness_StartBitCycle :
    ({ s1 with cmd := .placed s1Cmd 141, cmdStartSample := 141 } : State).startCycleAt 145 150 = true ∧
      (inS1 .startBit 145).startCycleAt 145 150 = true ∧
      (inS1 .startBit 150).startCycleAt 155 160 = true := by decide +kernel

theorem test_witness_StartBitConfirmed :
    (inS1 .startBit 145).startCycleAt 145 150 = true ∧ s1Cmd.levelAt 145 = false := by decide +kernel

theorem test_witness_StartBitSoftReset :
    (inS1 .startBit 155).startCycleAt 155 160 = true ∧ s1Cmd.levelAt 155 = true := by decide +kernel

theorem test_witness_Direction : (inS1 .direction 145).cycleAt 155 160 = true := by decide +kernel

theorem test_witness_CommandFieldAccumulates :
    let s : State := { inS1 .commandField 155 with countdown := 6 }
    s.cycleAt 165 170 = true ∧ s.countdown ≠ 1 := by decide +kernel

theorem test_witness_HostCommandFieldCompletes :
    let s : State := { inS1 .commandField 205 with countdown := 1, dir := true, acc := 20 }
    s.cycleAt 215 220 = true ∧ s.countdown = 1 ∧ s.dir = true ∧
      (40 : BitVec 6) = (shl1 s.acc (s.cmd.line.levelAt 215)).setWidth 6 := by decide +kernel

theorem test_witness_ResponseFieldCompletes :
    let s : State := { inS1 .commandField 205 with countdown := 1, acc := 20, lastHostCmd := 9, lastHostCmdValid := true }
    s.cycleAt 215 220 = true ∧ s.countdown = 1 ∧ s.dir = false ∧
      (40 : BitVec 6) = (shl1 s.acc (s.cmd.line.levelAt 215)).setWidth 6 ∧
      true = (s.lastHostCmdValid && (s.lastHostCmd == 2 || s.lastHostCmd == 9 || s.lastHostCmd == 10)) := by decide +kernel

theorem test_witness_ArgumentField :
    let s : State := { inS1 .argumentField 525 with countdown := 1, nbits := 31 }
    s.cycleAt 535 540 = true ∧ s.respLong = false := by decide +kernel

theorem test_witness_LongArgumentField :
    let s : State := { inS1 .argumentField 525 with countdown := 64, nbits := 63, respLong := true }
    s.cycleAt 535 540 = true ∧ s.respLong = true ∧ s.nbits = 63 := by decide +kernel

theorem test_witness_Crc7Field :
    let s : State := { inS1 .crc7 595 with countdown := 1 }
    s.cycleAt 605 610 = true := by decide +kernel

theorem test_witness_StopField : (inS1 .stop 605).cycleAt 615 620 = true := by decide +kernel

/-- The clock has run out: its last edge is at 795. -/
theorem test_witness_FsmSignal :
    (match (inExchange .direction 795 (s1From 750)).fsmCycle .direction with
     | .ok _ _ => false
     | .signal x _ => x == .endOfStream) = true := by decide +kernel

/-- What a walk of per-bit steps gives. -/
def walkIs (k : Nat) (s : State) (f : List Nat → List Nat → State → Bool) : Bool :=
  match State.bitWalk k s with
  | some (ps, bs, u) => f ps bs u
  | none => false

theorem test_witness_OneLineByte :
    s9.cursorsWf = true ∧ s9.dataAligned = true ∧
      walkIs 8 s9 (fun ps _ _ => ps == [155, 165, 175, 185, 195, 205, 215, 225]) = true := by decide +kernel

/-- In data-only mode, and with a command start beyond the byte. -/
theorem test_witness_ExtractOneLineByte :
    walkIs 8 s9 (fun ps _ u => s9.reads ps 0xA5 && s9.notDue u) = true ∧ s9.unitCount ≠ 513 ∧
      walkIs 8 (p3Read 235 230) (fun ps _ u => (p3Read 235 230).reads ps 0xC3 && (p3Read 235 230).notDue u) = true ∧
      (p3Read 235 230).cursorsWf = true ∧ (p3Read 235 230).dataAligned = true := by decide +kernel

theorem test_witness_ExtractFourLineByte :
    s8.cursorsWf = true ∧ s8.dataAligned = true ∧ walkIs 2 s8 (fun ps _ u => s8.reads ps 0xA5 && s8.notDue u) = true ∧
      s8.unitCount ≠ 513 := by decide +kernel

/-- S8 with a command line that falls at `p`, after LOCATE. -/
def s8Command (p : Nat) : State :=
  { s8 with cmd := .placed ⟨true, [p, p + 10]⟩ p, cmdStartSample := p, cmdStartValid := true }

/-- P3: interrupted after four bits, the boundary before the fourth not due yet; and after one bit (k = 0). -/
theorem test_witness_InterruptionDropsAPartialByte :
    let s := p3Read 315 310
    let r := p3Read 345 340
    (s.cursorsWf = true ∧ s.dataAligned = true ∧ 3 + 1 < s.unitCycles ∧
      walkIs 4 s (fun ps bs u => s.due u && decide (bs.getD 3 0 < s.cmdStartSample) && s.partialByte ps == 0b1011) = true) ∧
    r.cursorsWf = true ∧ r.dataAligned = true ∧ 0 + 1 < r.unitCycles ∧
      walkIs 1 r (fun ps _ u => r.due u && r.partialByte ps == 1) = true := by decide +kernel

/-- With four data lines: after the first of two cycles, and after the second. -/
theorem test_witness_InterruptionOnFourLines :
    let s := s8Command 161
    let r := s8Command 171
    (s.cursorsWf = true ∧ s.dataAligned = true ∧ 0 + 1 < s.unitCycles ∧
      walkIs 1 s (fun ps _ u => s.due u && s.partialByte ps == 0xA) = true) ∧
    r.cursorsWf = true ∧ r.dataAligned = true ∧ 1 + 1 = r.unitCycles ∧
      walkIs 2 r (fun ps bs u => r.due u && r.reads ps 0xA5 && decide (bs.getD 1 0 < r.cmdStartSample)) = true := by
  decide +kernel

/-- A byte whose last bit is read at 345 is complete when the command is found. -/
theorem test_witness_InterruptionAfterACompleteByte :
    let s := p3Read 275 270
    s.cursorsWf = true ∧ s.dataAligned = true ∧ 7 + 1 = s.unitCycles ∧
      walkIs 8 s (fun ps bs u => s.due u && s.reads ps 0x3B && decide (bs.getD 7 0 < s.cmdStartSample)) = true := by
  decide +kernel

/-- The 514th unit on an idle line (in data-only mode), and with a data line that falls again at 351. -/
theorem test_witness_BlockEnds :
    let s : State := { s9 with unitCount := 513 }
    let r : State := { placedAt .readData .startBit 155
      (run0 500 (benchClock .rising 30) idle (.one ⟨true, [141, 151, 351]⟩)) with unitCount := 513 }
    (s.cursorsWf = true ∧ s.dataAligned = true ∧ 7 + 1 = s.unitCycles ∧ s.unitCount = 513 ∧
      walkIs 8 s (fun ps _ u => s.reads ps 0xA5 && s.notDue u && u.noDataFall) = true) ∧
    r.cursorsWf = true ∧ r.dataAligned = true ∧ r.unitCount = 513 ∧
      walkIs 8 r (fun ps _ u => r.reads ps 0xFF && r.notDue u && u.firstDataFall 351 && u.alignedAt 351 365) = true := by
  decide +kernel

/-- The block that ends before a command start still to come. -/
theorem test_witness_BlockEndsBeforeACommand :
    let s : State := { p3Read 235 230 with unitCount := 513 }
    walkIs 8 s (fun ps _ u => s.reads ps 0xC3 && s.notDue u && u.firstDataFall 321 && u.alignedAt 321 335
      && decide (321 ≤ s.cmdStartSample)) = true := by decide +kernel

/-- The last transition passed over when no data line falls: before a command start (S13f), and the byte's own end. -/
theorem test_witness_LastPassed :
    let s : State := { run0 500 (benchClock .rising 30) ⟨true, [400, 420]⟩ (.one ⟨false, [301]⟩) with
      cmdStartSample := 400, cmdStartValid := true }
    s.noDataFall = true ∧ s.lastPassed = 301 ∧ ({ s with cmdStartSample := 301 } : State).lastPassed = 0 := by
  decide +kernel

/-- A capture whose clock has its edges up to 180, and those alone. -/
def shortClock (s : State) (n : Nat) : State := { s with clk := .placed ⟨true, s.clk.line.edges.take n⟩ s.clk.pos }

/-- The clock ends inside the second per-bit step; after it, in the interruption test; and in the alignment of S9's data
start, after one edge. -/
theorem test_witness_EndOfStreamWhileReadingData :
    let s := shortClock s9 14
    let r := { shortClock s9 14 with cmd := .placed ⟨true, [300]⟩ 300, cmdStartSample := 300, cmdStartValid := true }
    let a := placedAt .findDataStart .startBit 105 (shortClock s9 10)
    (s.cursorsWf = true ∧ s.dataAligned = true ∧ 1 < s.unitCycles ∧
      walkIs 1 s (fun _ _ u => s.notDue u &&
        (match u.bitStep none with
         | .ok _ _ => false
         | .signal x _ => x == .endOfStream)) = true) ∧
    (r.cursorsWf = true ∧ r.dataAligned = true ∧ 0 < r.unitCycles ∧ walkIs 1 r (fun _ _ u => u.clk.ahead.isEmpty) = true) ∧
    a.cursorsWf = true ∧ a.dataAligned = true ∧ a.firstDataFall 141 = true ∧ a.unalignable 141 = true := by decide +kernel

/-- The clock ends in the alignment after the 514th unit: one edge lies after the data start at 351. -/
theorem test_witness_EndOfStreamAtABlockEnd :
    let s : State := { shortClock (placedAt .readData .startBit 155
      (run0 500 (benchClock .rising 30) idle (.one ⟨true, [141, 151, 351]⟩))) 52 with unitCount := 513 }
    s.cursorsWf = true ∧ s.dataAligned = true ∧ 7 + 1 = s.unitCycles ∧ s.unitCount = 513 ∧
      walkIs 8 s (fun ps _ u => s.reads ps 0xFF && s.notDue u && u.firstDataFall 351 && u.unalignable 351) = true := by
  decide +kernel

theorem test_witness_DataUnits :
    walkIs 8 s9 (fun _ _ u => s9.notDue u) = true ∧ walkIs 2 s8 (fun _ _ u => s8.notDue u) = true ∧
      s9.unitCount ≠ 513 ∧ s8.unitCount ≠ 513 := by decide +kernel

theorem test_witness_DataUnitIsTheSampledByte : s9.carriesUnit 0xA5 = true ∧ s8.carriesUnit 0xA5 = true := by
  decide +kernel

theorem test_witness_DataRowsNeedTheirLines : s1.dat = .absent ∧ s1.nDat ≠ 1 ∧ s9.nDat ≠ 4 := by decide +kernel

/-- Room for 48 and for 136 cycles, no cancel request; and a row of the ACMD set. -/
theorem test_witness_Exchanges :
    let s := State.reset.load (.frame48 0x400000000095)
    let l := State.reset.load (.frame136 0x3F0123456789ABCDEFFEDCBA987654324F)
    (s.exchangeWalk 47).isSome = true ∧ s.notCancelled 47 = true ∧ (l.exchangeWalk 135).isSome = true ∧
      l.notCancelled 135 = true ∧ appCommand 41 0 0 1 = some (.acmd41 0 0 1) := by decide +kernel

theorem test_witness_PresentedFrame :
    let s : State := { State.reset.load (.frame48 0x400000000095) with presented := none }
    s.phase = .analyzeCommand ∧ s.frameState = .startBit ∧
      decode s.context (.frame48 0x400000000095) = .ok (.cmd0 0 0x4A 1) ∧
      State.carries (bitsOf (0x400000000095 : BitVec 48)) s = true := by
  refine ⟨rfl, rfl, rfl, ?_⟩
  decide +kernel

theorem test_witness_PresentedLongFrame :
    let s : State := { State.reset.load (.frame136 0x3F0123456789ABCDEFFEDCBA987654324F) with presented := none }
    s.phase = .analyzeCommand ∧ s.frameState = .startBit ∧
      decode s.context (.frame136 0x3F0123456789ABCDEFFEDCBA987654324F) =
        .ok (.rspLong 63 0x0123456789ABCDEF 0x7F6E5D4C3B2A1927 1) ∧
      State.carries (bitsOf (0x3F0123456789ABCDEFFEDCBA987654324F : BitVec 136)) s = true := by
  refine ⟨rfl, rfl, rfl, ?_⟩
  decide +kernel

/-- A frame that no row matches: its start bit is 1 (the command line is idle). -/
theorem test_witness_PresentedNotAFrame :
    let s : State := { inS1 .startBit 155 with cmd := .placed s1Cmd 151, cmdStartSample := 151 }
    s.phase = .analyzeCommand ∧ s.frameState = .startBit ∧ s.presented = none ∧
      (match decode s.context (.frame48 0xC00000000095) with
       | .ok _ => false
       | .error e => e == .notAFrame) = true ∧
      State.carries (bitsOf (0xC00000000095 : BitVec 48)) s = true := by
  refine ⟨rfl, rfl, rfl, rfl, ?_⟩
  decide +kernel

/-- A presented word of each kind that no row matches. -/
theorem test_witness_UnmatchedUnits :
    let s := inS1 .startBit 155
    s.cancelled = false ∧ s.phase ≠ .terminated ∧ s.startCycleAt 155 160 = true ∧ start48 0xC00000000095 = 1 ∧
      (match decodeControl 0b101000 with
       | .ok _ => false
       | .error e => e == .reservedPhase) = true ∧ s.nDat ≠ 1 ∧ s9.nDat ≠ 4 ∧ s9.cancelled = false := by decide +kernel

theorem test_witness_RunsStartInTheInvariants :
    1 ≤ 1400 ∧ 1400 < 2 ^ 64 ∧ (benchClock .rising 30).wf 1400 = true ∧ p3Dat.wf 1400 = true := by decide +kernel

/-- States of the two invariants, in a data block and inside an exchange, that step. -/
theorem test_witness_Invariants :
    (p3Read 235 230).ControlInv ∧ (p3Read 235 230).OutputInv ∧ after (step (p3Read 235 230)) (fun _ => true) = true ∧
      ({ inS1 .stop 605 with fieldStart := 610 } : State).ControlInv ∧
      ({ inS1 .stop 605 with fieldStart := 610 } : State).OutputInv := by decide +kernel

theorem test_witness_StepAnswersNext : after (step s1) (fun _ => true) = true := by decide +kernel

theorem test_witness_LastHostCommand :
    let s : State := { inS1 .commandField 205 with countdown := 1, dir := true, acc := 20 }
    s.presented = none ∧ after (step s) (fun t => t.lastHostCmd != s.lastHostCmd) = true := by decide +kernel

/-- V60.4, V60.7 and V60.2: each of the three outcomes. -/
theorem test_witness_Configuration :
    (v60 0 1 none (some 3) none none).chanDat.map Option.isSome ∉
        [[false, false, false, false], [true, false, false, false], [true, true, true, true]] ∧
      (v60 0 0 none none none none).chanDat.map Option.isSome = [false, false, false, false] ∧
      ¬ (v60 0 0 none none none none).channels.Nodup ∧
      (v60 0 1 (some 2) none none none).chanDat.map Option.isSome = [true, false, false, false] ∧
      (v60 0 1 (some 2) none none none).channels.Nodup := by decide

/-- The capture of P3, at the start of a run and after its second byte. -/
theorem test_witness_StrictOrder :
    p3.ControlInv ∧ p3.OutputInv ∧ p3.fallsOutsideLastHalf = true ∧
      after (Host.Core.run core 3 p3) (fun t => (framesOf t.out).map (·.first) == [155, 230]) = true := by decide +kernel

end Sys2Proof.Tests
end

section
/-! PROOFS. The Edge Cursor (spec/40_edge_cursor.md): the level of a cursor is the level of its line at its position,
at reset and after both movements. A movement toggles the level once for every transition it passes, and `idx` grows by
exactly that number. -/

namespace Sys2Proof.Machine

/-! Lines: the derived quantity `idx` of R66, and the level in terms of it. -/

/-- `idx` of R66 at position `p`: the number of transitions of the line at or before it. -/
def Line.idx (l : Line) (p : Nat) : Nat := (l.edges.filter (· ≤ p)).length

theorem toggled_zero (b : Bool) : toggled b 0 = b := by simp [toggled]

theorem toggled_one (b : Bool) : toggled b 1 = !b := by simp [toggled]

theorem toggled_toggled (b : Bool) (m n : Nat) : toggled (toggled b m) n = toggled b (m + n) := by
  rcases Nat.mod_two_eq_zero_or_one m with hm | hm <;> rcases Nat.mod_two_eq_zero_or_one n with hn | hn <;>
    simp [toggled, Nat.add_mod, hm, hn]

/-- The definition of `Line_L(p)` (R31), said with `idx`. -/
theorem Line.levelAt_eq_toggled_idx (l : Line) (p : Nat) : l.levelAt p = toggled l.init (l.idx p) := rfl

theorem Line.wf_iff {n : Nat} {l : Line} :
    l.wf n = true ↔ l.edges.Pairwise (· < ·) ∧ ∀ p ∈ l.edges, 1 ≤ p ∧ p < n := by
  simp [Line.wf]

/-- No transition of a canonical line lies at sample 0 (R31). -/
theorem Line.idx_zero {n : Nat} {l : Line} (hl : l.wf n = true) : l.idx 0 = 0 := by
  obtain ⟨-, hrange⟩ := Line.wf_iff.1 hl
  have hnone : ∀ p ∈ l.edges, ¬ p ≤ 0 := fun p hp => by have := hrange p hp; omega
  simpa [Line.idx] using hnone

/-! Cursors: the transitions ahead, and how many of them a movement passes. -/

/-- An ascending list is its members up to `p`, then its members beyond `p`. -/
theorem filter_le_append_filter_lt {es : List Nat} (hsorted : es.Pairwise (· < ·)) (p : Nat) :
    es.filter (· ≤ p) ++ es.filter (p < ·) = es := by
  induction hsorted with
  | nil => rfl
  | @cons q qs hq _ ih =>
    by_cases hqp : q ≤ p
    · simpa [hqp, Nat.not_lt.2 hqp] using ih
    · have hbeyond : ∀ r ∈ qs, p < r := fun r hr => by have := hq r hr; omega
      have hnone : qs.filter (· ≤ p) = [] := by simpa using hbeyond
      have hall : qs.filter (p < ·) = qs := by simpa using hbeyond
      simp [hqp, hnone, hall, Nat.lt_of_not_le hqp]

/-- The transitions ahead are `p_(idx+1), ..., p_k` (R66). -/
theorem Cursor.ahead_eq_drop_idx {n : Nat} {c : Cursor} (hl : c.line.wf n = true) :
    c.ahead = c.line.edges.drop (c.line.idx c.pos) := by
  have hsplit : c.line.edges.filter (· ≤ c.pos) ++ c.ahead = c.line.edges :=
    filter_le_append_filter_lt (Line.wf_iff.1 hl).1 c.pos
  exact (List.drop_left' rfl).symm.trans (congrArg (List.drop (c.line.idx c.pos)) hsplit)

/-- Between the cursor and a later position, `idx` grows by the number of transitions passed. -/
theorem Cursor.idx_add_passed {c : Cursor} {p : Nat} (hp : c.pos ≤ p) :
    c.line.idx c.pos + (c.ahead.filter (· ≤ p)).length = c.line.idx p := by
  have hsplit := List.length_eq_length_filter_add (l := c.line.edges.filter (· ≤ p)) (· ≤ c.pos)
  have hreached : (c.line.edges.filter (· ≤ p)).filter (· ≤ c.pos) = c.line.edges.filter (· ≤ c.pos) := by
    rw [List.filter_filter]
    exact List.filter_congr fun q _ => by simpa using fun h => h.trans hp
  have hpassed : (c.line.edges.filter (· ≤ p)).filter (fun q => !decide (q ≤ c.pos)) = c.ahead.filter (· ≤ p) := by
    rw [Cursor.ahead, List.filter_filter, List.filter_filter]
    exact List.filter_congr fun q _ => Bool.eq_iff_iff.2 (by simp [and_comm])
  rw [hreached, hpassed] at hsplit
  exact hsplit.symm

/-- The next transition is the only one passed on the way to it: in canonical form the others lie beyond it. -/
theorem Cursor.passed_eq_singleton {n : Nat} {c : Cursor} {q : Nat} {qs : List Nat} (hl : c.line.wf n = true)
    (hc : c.ahead = q :: qs) : c.ahead.filter (· ≤ q) = [q] := by
  have hsorted : c.ahead.Pairwise (· < ·) := (Line.wf_iff.1 hl).1.filter _
  rw [hc, List.pairwise_cons] at hsorted
  simpa [hc] using hsorted.1

/-! The invariant of R66: it is kept when the level is toggled once for every transition passed. -/

theorem Cursor.toggled_passed_eq_levelAt {c : Cursor} {p : Nat} (hlevel : c.level = c.line.levelAt c.pos)
    (hp : c.pos ≤ p) : toggled c.level (c.ahead.filter (· ≤ p)).length = c.line.levelAt p := by
  rw [hlevel, Line.levelAt_eq_toggled_idx, toggled_toggled, Cursor.idx_add_passed hp, Line.levelAt_eq_toggled_idx]

theorem Cursor.atStart_level_eq_levelAt {n : Nat} {l : Line} (hl : l.wf n = true) :
    (Cursor.atStart l).level = l.levelAt 0 := by
  rw [Line.levelAt_eq_toggled_idx, Line.idx_zero hl, toggled_zero, Cursor.atStart]

theorem Cursor.nextEdge_level_eq_levelAt {n : Nat} {c d : Cursor} (hl : c.line.wf n = true)
    (hlevel : c.level = c.line.levelAt c.pos) (h : c.nextEdge = .ok d) : d.level = d.line.levelAt d.pos := by
  obtain ⟨q, qs, hq, rfl⟩ := Cursor.nextEdge_ok.1 h
  calc (!c.level)
    _ = toggled c.level (c.ahead.filter (· ≤ q)).length := by
      rw [Cursor.passed_eq_singleton hl hq, List.length_singleton, toggled_one]
    _ = c.line.levelAt q := Cursor.toggled_passed_eq_levelAt hlevel (Cursor.pos_lt_of_ahead hq).le

theorem Cursor.toAbs_level_eq_levelAt {n p : Nat} {c d : Cursor} (hlevel : c.level = c.line.levelAt c.pos)
    (h : c.toAbs n p = .ok d) : d.level = d.line.levelAt d.pos := by
  obtain ⟨hp, -, rfl⟩ := Cursor.toAbs_ok.1 h
  exact Cursor.toggled_passed_eq_levelAt hlevel hp

/-- Settles O11: the transitions ahead are those after `idx`, and both movements toggle the level once for every
transition they pass. -/
theorem cursorLevelIsTheLineLevel : Obligations.CursorLevelIsTheLineLevel := by
  unfold Obligations.CursorLevelIsTheLineLevel
  intro n l hl
  refine ⟨Cursor.atStart_level_eq_levelAt hl, ?_, ?_⟩
  · rintro c rfl
    exact Cursor.ahead_eq_drop_idx hl
  · rintro c d rfl hlevel hmove
    obtain ⟨hline, hkept⟩ : d.line = c.line ∧ d.level = d.line.levelAt d.pos := by
      rcases hmove with hnext | ⟨p, habs⟩
      · exact ⟨Cursor.nextEdge_line hnext, Cursor.nextEdge_level_eq_levelAt hl hlevel hnext⟩
      · exact ⟨Cursor.toAbs_line habs, Cursor.toAbs_level_eq_levelAt hlevel habs⟩
    rw [hline] at hkept
    exact ⟨hline, hkept, hkept⟩

end Sys2Proof.Machine
end

section
/-! PROOFS. The Data-Presence Arbiter (spec/42_data_presence_arbiter.md): the minimum of the race, the tie-break of R81, and
the pass that declares a data start. -/

namespace Sys2Proof.Machine

/-- The minimum of R80 is the library's minimum of the candidates' positions. -/
theorem min?_positions_eq_some_earliest (c : Nat × Bool) (cs : List (Nat × Bool)) :
    ((c :: cs).map (·.1)).min? = some (earliest c cs) := by
  rw [List.map_cons, List.min?_cons', List.foldl_map, earliest]

/-- What makes a position the minimum of R80: a candidate stands there, and none stands before it. -/
theorem earliest_eq_iff {c : Nat × Bool} {cs : List (Nat × Bool)} {p : Nat} :
    earliest c cs = p ↔ (∃ x ∈ c :: cs, x.1 = p) ∧ ∀ x ∈ c :: cs, p ≤ x.1 := by
  rw [← Option.some_inj, ← min?_positions_eq_some_earliest, List.min?_eq_some_iff, List.mem_map, List.forall_mem_map]

/-- The tie-break is existential (R81): one candidate at the position with level 1, whatever the others. -/
theorem declaresStart_iff {p : Nat} {cands : List (Nat × Bool)} :
    declaresStart p cands = true ↔ (p, true) ∈ cands := by
  rw [declaresStart, List.any_eq_true]
  constructor
  · rintro ⟨⟨q, b⟩, hmem, hx⟩
    obtain ⟨rfl, rfl⟩ : q = p ∧ b = true := by simpa using hx
    exact hmem
  · intro hmem
    exact ⟨(p, true), hmem, by simp⟩

/-- A pass with a high candidate at the minimum answers at once, before the bound test and before any movement (R80). -/
theorem State.arbitratePasses_of_high_at_minimum {s : State} {p : Nat} (fuel : Nat) (hhigh : (p, true) ∈ s.candidates)
    (hmin : ∀ x ∈ s.candidates, p ≤ x.1) :
    State.arbitratePasses (fuel + 1) s = .ok .dataPresent { s with dataStartSample := p } := by
  cases hcands : s.candidates with
  | nil => simp [hcands] at hhigh
  | cons c cs =>
    rw [hcands] at hhigh hmin
    have hearliest : earliest c cs = p := earliest_eq_iff.2 ⟨⟨(p, true), hhigh, rfl⟩, hmin⟩
    simp only [State.arbitratePasses, hcands, hearliest, declaresStart_iff.2 hhigh, if_true]

/-- Settles O16: the first pass of the race already has the high candidate at its minimum, and the test of a pass is
membership of that candidate. -/
theorem arbitrationTieBreak : Obligations.ArbitrationTieBreak := by
  unfold Obligations.ArbitrationTieBreak
  constructor
  · intro s p hhigh hmin
    exact State.arbitratePasses_of_high_at_minimum _ hhigh hmin
  · rintro c cs _ rfl
    obtain ⟨hattained, hlower⟩ := earliest_eq_iff.1 (rfl : earliest c cs = earliest c cs)
    exact ⟨declaresStart_iff, hlower, hattained⟩

end Sys2Proof.Machine
end

section
/-! PROOFS. The Data Extractor (spec/43_data_extractor.md): what a shift register holds, and what the per-bit steps leave in
`dacc` and `dnb` with one data line. -/

namespace Sys2Proof.Machine

/-! The shift of R51: a register of n bits holds the last n of the bits that went through it. -/

theorem getD_bitsOf {n : Nat} (w : BitVec n) (k : Nat) : (bitsOf w).getD k false = w.getMsbD k := by
  by_cases hk : k < n
  · simp [bitsOf, hk]
  · simp [bitsOf, hk, BitVec.getMsbD_of_ge w k (Nat.le_of_not_lt hk)]

theorem getMsbD_shl1 {n : Nat} (v : BitVec n) (b : Bool) {k : Nat} (hk : k < n) :
    (shl1 v b).getMsbD k = if k + 1 < n then v.getMsbD (k + 1) else b := by
  rw [shl1, BitVec.getMsbD_or, BitVec.getMsbD_shiftLeft, BitVec.getMsbD_eq_getLsbD _ k, BitVec.getLsbD_setWidth,
    BitVec.getLsbD_ofBool]
  split
  · next hkept => simp [hk, show n - 1 - k ≠ 0 by omega]
  · next hlast => simp [hk, show n - 1 - k = 0 by omega, show k + 1 = n by omega, show 0 < n by omega]

/-- One shift drops the oldest bit and appends the new one. -/
theorem bitsOf_shl1 {n : Nat} (v : BitVec n) (b : Bool) : bitsOf (shl1 v b) = (bitsOf v ++ [b]).drop 1 := by
  apply List.ext_getElem
  · simp
  · intro k hk _
    rw [bitsOf_length] at hk
    rw [List.getElem_drop, List.getElem_append]
    simp [bitsOf, getMsbD_shl1 v b hk, Nat.add_comm]

/-- The register holds the last n of the bits it held before and the bits shifted in. -/
theorem bitsOf_foldl_shl1 {n : Nat} (v : BitVec n) (bits : List Bool) :
    bitsOf (bits.foldl shl1 v) = (bitsOf v ++ bits).drop bits.length := by
  induction bits generalizing v with
  | nil => simp
  | cons b bits ih =>
    calc bitsOf (bits.foldl shl1 (shl1 v b))
      _ = ((bitsOf v ++ [b]).drop 1 ++ bits).drop bits.length := by rw [ih, bitsOf_shl1]
      _ = ((bitsOf v ++ b :: bits).drop 1).drop bits.length := by
        rw [← List.drop_append_of_le_length (by simp), List.append_assoc, List.singleton_append]
      _ = (bitsOf v ++ b :: bits).drop (b :: bits).length := by
        rw [List.drop_drop, List.length_cons, Nat.add_comm]

/-- After as many shifts as the register has bits, nothing of its former content is left. -/
theorem bitsOf_foldl_shl1_of_length_eq {n : Nat} (v : BitVec n) {bits : List Bool} (hlength : bits.length = n) :
    bitsOf (bits.foldl shl1 v) = bits := by
  rw [bitsOf_foldl_shl1, List.drop_left' (by rw [bitsOf_length, hlength])]

/-! One data line (R86). -/

theorem State.packGroup_one {s : State} {d0 : Cursor} (hdat : s.dat = .one d0) :
    s.packGroup none = { s with dacc := shl1 s.dacc d0.level, dnb := s.dnb + 1 } := by
  simp [State.packGroup, hdat]

/-- The one active line is `l`, and its cursor stands at the clock's position with the level of `l` there: what every
per-bit step finds and leaves behind. -/
def State.SamplesLine (l : Line) (s : State) : Prop :=
  ∃ d, s.dat = .one d ∧ d.line = l ∧ d.pos = s.clk.pos ∧ d.level = d.line.levelAt d.pos

theorem State.samplesLine_of_aligned {s : State} {d0 : Cursor} (hdat : s.dat = .one d0) (hwf : s.cursorsWf = true)
    (haligned : s.dataAligned = true) : s.SamplesLine d0.line := by
  have hlevel : d0.level = d0.line.levelAt d0.pos := by
    simp only [State.cursorsWf, hdat, DataSet.toList, Cursor.wf] at hwf
    simp_all
  exact ⟨d0, hdat, rfl, by simpa [State.dataAligned, hdat, DataSet.toList] using haligned, hlevel⟩

/-- A per-bit step shifts in the level at the clock's position, and its data cursor follows the clock (R86, R88). -/
theorem State.bitStep_of_samplesLine {s t : State} {l : Line} {boundary : Nat} (hs : s.SamplesLine l)
    (hstep : s.bitStep none = .ok boundary t) :
    t.dacc = shl1 s.dacc (l.levelAt s.clk.pos) ∧ t.dnb = s.dnb + 1 ∧ t.SamplesLine l := by
  obtain ⟨d, hdat, rfl, hpos, hlevel⟩ := hs
  obtain ⟨b, c, e, -, -, hmoved, -, rfl⟩ := State.bitStep_ok.1 hstep
  rw [State.packGroup_one hdat] at hmoved ⊢
  rw [hdat, DataSet.each_ok] at hmoved
  obtain ⟨d', habs, rfl⟩ := hmoved
  exact ⟨by rw [hlevel, hpos], rfl, d', rfl, Cursor.toAbs_line habs, Cursor.toAbs_pos habs,
    Cursor.toAbs_level_eq_levelAt hlevel habs⟩

/-! Walks of per-bit steps. -/

theorem State.bitWalk_zero {s u : State} {ps bs : List Nat} :
    State.bitWalk 0 s = some (ps, bs, u) ↔ ps = [] ∧ bs = [] ∧ u = s := by
  simp [State.bitWalk, eq_comm]

theorem State.bitWalk_succ {s u : State} {k : Nat} {ps bs : List Nat} :
    State.bitWalk (k + 1) s = some (ps, bs, u) ↔
      ∃ boundary t ps' bs', s.bitStep none = .ok boundary t ∧ State.bitWalk k t = some (ps', bs', u) ∧
        ps = s.clk.pos :: ps' ∧ bs = boundary :: bs' := by
  rw [State.bitWalk]
  cases s.bitStep none with
  | signal x t => simp
  | ok boundary t => simp [eq_comm, and_assoc]

/-- A walk of per-bit steps shifts in the levels of the line at the samples read, in their order (R86). -/
theorem State.bitWalk_of_samplesLine {l : Line} {k : Nat} {s u : State} {ps bs : List Nat} (hs : s.SamplesLine l)
    (hwalk : State.bitWalk k s = some (ps, bs, u)) :
    ps.length = k ∧ u.dacc = (ps.map l.levelAt).foldl shl1 s.dacc ∧ u.dnb = s.dnb + BitVec.ofNat 4 k := by
  induction k generalizing s ps bs with
  | zero =>
    obtain ⟨rfl, -, rfl⟩ := State.bitWalk_zero.1 hwalk
    simp
  | succ k ih =>
    obtain ⟨boundary, t, ps', bs', hstep, hrest, rfl, -⟩ := State.bitWalk_succ.1 hwalk
    obtain ⟨hdacc, hdnb, ht⟩ := State.bitStep_of_samplesLine hs hstep
    obtain ⟨hlength, hdacc', hdnb'⟩ := ih ht hrest
    refine ⟨by rw [List.length_cons, hlength], by rw [hdacc', hdacc]; rfl, ?_⟩
    rw [hdnb', hdnb, BitVec.add_assoc, BitVec.ofNat_add, BitVec.add_comm 1, BitVec.ofNat_eq_ofNat]

/-- Settles O32: eight shifts leave nothing of the former content of `dacc`, so its bits, most significant first, are the
levels read, first in time first. -/
theorem oneLineByteIsMsbFirst : Obligations.OneLineByteIsMsbFirst := by
  unfold Obligations.OneLineByteIsMsbFirst
  intro s d0 hdat
  refine ⟨State.packGroup_one hdat, fun u ps bs hwf haligned hwalk => ?_⟩
  obtain ⟨hlength, hdacc, hdnb⟩ :=
    State.bitWalk_of_samplesLine (State.samplesLine_of_aligned hdat hwf haligned) hwalk
  have hbits : bitsOf u.dacc = ps.map d0.line.levelAt := by
    rw [hdacc, bitsOf_foldl_shl1_of_length_eq _ (by rw [List.length_map, hlength])]
  refine ⟨hdnb, fun k hk => ?_⟩
  rw [← getD_bitsOf, hbits]
  simp [hlength, hk]

end Sys2Proof.Machine
end

section
/-! PROOFS. The Frame State Machine (spec/44_frame_state_machine.md): the bus cycle in terms of the lines alone (R95), and
what the sub-states Direction, ArgumentField, CRC7 and Stop do with the bit of their cycle. -/

namespace Sys2Proof.Machine

/-! Cursors inside a capture: each movement leaves the cursor placed on its line. -/

theorem Line.nextAfter_iff {l : Line} {p q : Nat} :
    l.nextAfter p q = true ↔ ∃ qs, l.edges.filter (p < ·) = q :: qs := by
  rw [Line.nextAfter, beq_iff_eq, List.head?_eq_some_iff]

/-- In canonical form the transition that follows `p` lies beyond `p` and inside the capture. -/
theorem Line.nextAfter_bounds {n p q : Nat} {l : Line} (hl : l.wf n = true) (h : l.nextAfter p q = true) :
    p < q ∧ q < n := by
  obtain ⟨qs, hqs⟩ := Line.nextAfter_iff.1 h
  obtain ⟨hmem, hlt⟩ := List.mem_filter.1 (hqs ▸ List.mem_cons_self : q ∈ l.edges.filter (p < ·))
  obtain ⟨-, hrange⟩ := Line.wf_iff.1 hl
  exact ⟨of_decide_eq_true hlt, (hrange q hmem).2⟩

theorem Cursor.wf_iff {n : Nat} {c : Cursor} :
    c.wf n = true ↔ c.line.wf n = true ∧ c.pos < n ∧ c.level = c.line.levelAt c.pos := by
  simp [Cursor.wf, and_assoc]

theorem Cursor.placed_wf {n p : Nat} {l : Line} (hl : l.wf n = true) (hp : p < n) : (Cursor.placed l p).wf n = true :=
  Cursor.wf_iff.2 ⟨hl, hp, rfl⟩

theorem Cursor.eq_placed {c : Cursor} (hlevel : c.level = c.line.levelAt c.pos) : c = .placed c.line c.pos :=
  congrArg (Cursor.mk c.line c.pos) hlevel

theorem Cursor.peek_of_nextAfter {c : Cursor} {q : Nat} (h : c.line.nextAfter c.pos q = true) : c.peek = .ok q :=
  Cursor.peek_ok.2 (Line.nextAfter_iff.1 h)

theorem Cursor.nextEdge_of_nextAfter {n q : Nat} {c : Cursor} (hc : c.wf n = true)
    (h : c.line.nextAfter c.pos q = true) : c.nextEdge = .ok (.placed c.line q) := by
  obtain ⟨hl, -, hlevel⟩ := Cursor.wf_iff.1 hc
  obtain ⟨qs, hqs⟩ := Line.nextAfter_iff.1 h
  have hnext : c.nextEdge = .ok { c with pos := q, level := !c.level } := Cursor.nextEdge_ok.2 ⟨q, qs, hqs, rfl⟩
  rw [hnext, ← Cursor.eq_placed (Cursor.nextEdge_level_eq_levelAt hl hlevel hnext)]

theorem Cursor.toAbs_of_wf {n p : Nat} {c : Cursor} (hc : c.wf n = true) (hpos : c.pos ≤ p) (hp : p < n) :
    c.toAbs n p = .ok (.placed c.line p) := by
  obtain ⟨-, -, hlevel⟩ := Cursor.wf_iff.1 hc
  exact Cursor.toAbs_ok.2 ⟨hpos, hp, by rw [Cursor.toggled_passed_eq_levelAt hlevel hpos]; rfl⟩

theorem DataSet.each_of_forall_ok {f : Cursor → Except Signal Cursor} {g : Cursor → Cursor} {d : DataSet Cursor}
    (h : ∀ c ∈ d.toList, f c = .ok (g c)) : d.each f = (d.map g, none) := by
  cases d <;> simp_all [DataSet.toList, DataSet.each, DataSet.map]

/-! The bus cycle (R95). -/

theorem State.cursorsWf_iff {s : State} :
    s.cursorsWf = true ↔
      (1 ≤ s.nSamples ∧ s.nSamples < 2 ^ Config.POS_BITS) ∧ s.clk.wf s.nSamples = true ∧ s.cmd.wf s.nSamples = true ∧
        ∀ d ∈ s.dat.toList, d.wf s.nSamples = true := by
  simp [State.cursorsWf, and_assoc]

theorem State.cellAt_iff {s : State} {m e : Nat} :
    s.cellAt m e = true ↔
      s.cursorsWf = true ∧ s.cmd.pos ≤ m ∧ (∀ d ∈ s.dat.toList, d.pos ≤ m) ∧ s.clk.line.nextAfter m e = true := by
  simp [State.cellAt, and_assoc]

/-- The midpoint is the second edge of the clock where it stands in the half-period after a midpoint, else the first. -/
theorem State.cycleAt_iff {s : State} {m e : Nat} :
    s.cycleAt m e = true ↔
      s.cellAt m e = true ∧
        if s.clk.level = s.midLevel then ∃ b, s.clk.line.nextAfter s.clk.pos b = true ∧ s.clk.line.nextAfter b m = true
        else s.clk.line.nextAfter s.clk.pos m = true := by
  rw [State.cycleAt, Bool.and_eq_true]
  refine and_congr_right fun _ => ?_
  by_cases hlevel : s.clk.level = s.midLevel
  · have hnext : ∀ b, s.clk.line.nextAfter s.clk.pos b = true ↔ s.clk.ahead.head? = some b := fun b => beq_iff_eq
    simp only [if_pos hlevel, hnext]
    cases s.clk.ahead.head? <;> simp
  · simp [if_neg hlevel]

/-- The clock's two movements of a cycle: out of the half-period that follows a midpoint, then to the midpoint. -/
theorem State.clock_to_midpoint {s : State} {m e : Nat} (h : s.cycleAt m e = true) :
    ∃ b, (if s.clk.level = s.midLevel then s.clk.nextEdge = .ok b else b = s.clk) ∧
      b.nextEdge = .ok (.placed s.clk.line m) := by
  obtain ⟨hcell, hmid⟩ := State.cycleAt_iff.1 h
  obtain ⟨hwf, -, -, -⟩ := State.cellAt_iff.1 hcell
  obtain ⟨-, hclk, -, -⟩ := State.cursorsWf_iff.1 hwf
  split_ifs at hmid ⊢ with hlevel
  · obtain ⟨b, hb, hbm⟩ := hmid
    obtain ⟨hl, -, -⟩ := Cursor.wf_iff.1 hclk
    exact ⟨_, Cursor.nextEdge_of_nextAfter hclk hb,
      Cursor.nextEdge_of_nextAfter (Cursor.placed_wf hl (Line.nextAfter_bounds hl hb).2) hbm⟩
  · exact ⟨_, rfl, Cursor.nextEdge_of_nextAfter hclk hmid⟩

/-- A bus cycle whose midpoint and end the lines give: the bit is the level of the command line at the midpoint, and the
three cursors stand there. -/
theorem State.cycle_of_cycleAt {s : State} {m e : Nat} (h : s.cycleAt m e = true) :
    s.cycle = .ok { mid := m, cycleEnd := e, bit := s.cmd.line.levelAt m }
      ((s.movedTo m).marker m .sampleEdge .clk) := by
  obtain ⟨b, hb, hmid⟩ := State.clock_to_midpoint h
  obtain ⟨hcell, -⟩ := State.cycleAt_iff.1 h
  obtain ⟨hwf, hcmdpos, hdatpos, hend⟩ := State.cellAt_iff.1 hcell
  obtain ⟨-, hclk, hcmd, hdat⟩ := State.cursorsWf_iff.1 hwf
  obtain ⟨hl, -, -⟩ := Cursor.wf_iff.1 hclk
  have hm : m < s.nSamples := by
    have hbounds := Line.nextAfter_bounds hl hend
    omega
  have hlines : s.dat.each (Cursor.toAbs s.nSamples m) = (s.dat.map (fun d => .placed d.line m), none) :=
    DataSet.each_of_forall_ok fun d hd => Cursor.toAbs_of_wf (hdat d hd) (hdatpos d hd) hm
  exact State.cycle_ok.2 ⟨b, _, _, _, e, hb, hmid, Cursor.toAbs_of_wf hcmd hcmdpos hm, hlines,
    Cursor.peek_of_nextAfter hend, rfl, rfl⟩

/-! The iteration of a frame sub-state (R108, R116). -/

theorem exec_fsmRow (f : FrameState) (s : State) : exec (fsmRow f) s = .next (s.analyze f none) := by
  cases f <;> rfl

/-- Every sub-state but StartBit runs the bus cycle of R95, then its action on the bit sampled. -/
theorem State.fsmStep_of_cycleAt {s u : State} {m e : Nat} {f : FrameState} {r : FsmResult} (hf : f ≠ .startBit)
    (h : s.cycleAt m e = true)
    (haction : ((s.movedTo m).marker m .sampleEdge .clk).fsmAction f none
      { mid := m, cycleEnd := e, bit := s.cmd.line.levelAt m } = (r, u)) :
    s.fsmStep f none = .ok r u := by
  have hcycle : s.fsmCycle f = s.cycle := by
    cases f with
    | startBit => exact absurd rfl hf
    | direction | commandField | argumentField | crc7 | stop => rfl
  rw [State.fsmStep_eq, hcycle, State.cycle_of_cycleAt h]
  exact congrArg (fun p => Res.ok p.1 p.2) haction

theorem exec_fsmRow_of_goOn {s u : State} {f : FrameState} (h : s.fsmStep f none = .ok .goOn u) :
    exec (fsmRow f) s = .next { u with phase := .analyzeCommand } := by
  rw [exec_fsmRow, State.analyze_eq, h]

theorem exec_fsmRow_of_complete {s u : State} {f : FrameState} (h : s.fsmStep f none = .ok .complete u) :
    exec (fsmRow f) s = .next ({ u with phase := .findCmdStart } : State).progress := by
  rw [exec_fsmRow, State.analyze_eq, h]

/-! The actions of the sub-states (R98, R101, R103, R104), on any state and any bus cycle. A countdown reaches 0 exactly
from 1 (R149). -/

theorem setWidth_ofBool_eq_ite (b : Bool) : (BitVec.ofBool b).setWidth 64 = if b then (1 : Word64) else 0 := by
  cases b <;> rfl

theorem State.directionAction_eq (c : Cycle) (s : State) :
    s.directionAction c = (.goOn, { s with
      frameState := .commandField, dir := c.bit, fieldStart := c.cycleEnd, countdown := 6, acc := 0, packetOpen := true
      out := s.out ++ [.addFrame (.upTo .direction s.fieldStart c.cycleEnd (if c.bit then 1 else 0) 0 0)] }) := by
  rw [← setWidth_ofBool_eq_ite]
  rfl

theorem State.fsmAction_argumentField_of_normal {cls : Option FrameClass} {c : Cycle} {s : State}
    (hnormal : s.respLong = false) : s.fsmAction .argumentField cls c = s.argumentAction c := by
  simp [State.fsmAction, hnormal]

theorem State.fsmAction_argumentField_of_last {cls : Option FrameClass} {c : Cycle} {s : State}
    (hnormal : s.respLong = false) (hlast : s.countdown = 1) :
    s.fsmAction .argumentField cls c = (.goOn, { s with
      frameState := .crc7, acc := 0, nbits := s.nbits + 1, countdown := 7, fieldStart := c.cycleEnd, packetOpen := true
      out := s.out ++ [.addFrame (.upTo .argument s.fieldStart c.cycleEnd
        (((shl1 s.acc c.bit).setWidth 32).setWidth 64) 0 0)] }) :=
  (State.fsmAction_argumentField_of_normal hnormal).trans (if_pos (sub_eq_zero.2 hlast))

theorem State.fsmAction_argumentField_of_not_last {cls : Option FrameClass} {c : Cycle} {s : State}
    (hnormal : s.respLong = false) (hmore : s.countdown ≠ 1) :
    s.fsmAction .argumentField cls c =
      (.goOn, { s with acc := shl1 s.acc c.bit, nbits := s.nbits + 1, countdown := s.countdown - 1 }) :=
  (State.fsmAction_argumentField_of_normal hnormal).trans (if_neg (mt sub_eq_zero.1 hmore))

theorem State.crc7Action_of_last {c : Cycle} {s : State} (hlast : s.countdown = 1) :
    s.crc7Action c = (.goOn, { s with
      frameState := .stop, acc := shl1 s.acc c.bit, countdown := 0, fieldStart := c.cycleEnd, packetOpen := true
      out := s.out ++ [.addFrame (.upTo .crc7 s.fieldStart c.cycleEnd
        (((shl1 s.acc c.bit).setWidth 7).setWidth 64) 0 0)] }) := by
  have hdone : s.countdown - 1 = 0 := sub_eq_zero.2 hlast
  simp only [State.crc7Action, hdone, if_true]
  rfl

theorem State.crc7Action_of_not_last {c : Cycle} {s : State} (hmore : s.countdown ≠ 1) :
    s.crc7Action c = (.goOn, { s with acc := shl1 s.acc c.bit, countdown := s.countdown - 1 }) :=
  if_neg (mt sub_eq_zero.1 hmore)

/-- A frame that a suppression flag may leave out: it opens the packet only where it is emitted. -/
theorem State.addFrame_unless_suppressed (suppressed : Bool) (f : Frame) (s : State) :
    (if suppressed then s else s.addFrame f) =
      { s with packetOpen := s.packetOpen || !suppressed, out := s.out ++ shown suppressed f } := by
  cases suppressed <;> simp [shown, State.addFrame, State.emit]

/-- Closing leaves no packet open, and commits the one that was (R113). -/
theorem State.closePacket_eq (s : State) :
    s.closePacket = { s with packetOpen := false, out := s.out ++ committed s.packetOpen } := by
  unfold State.closePacket
  split
  · next hopen => rw [hopen]; rfl
  · next hclosed =>
    calc s
      _ = { s with packetOpen := s.packetOpen, out := s.out ++ [] } := by rw [List.append_nil]
      _ = _ := by rw [Bool.eq_false_iff.2 hclosed]; rfl

/-- The bit of the cycle stands nowhere in what Stop leaves (R104). -/
theorem State.stopAction_eq (c : Cycle) (s : State) :
    s.stopAction c = (.complete, { s with
      frameState := .startBit, fieldStart := c.cycleEnd, packetOpen := false
      out := s.out ++ [.marker c.mid .stopMark .cmd]
        ++ shown s.config.suppressStartStopFrames (.upTo .stop s.fieldStart c.cycleEnd 0 0 0)
        ++ committed (s.packetOpen || !s.config.suppressStartStopFrames) }) := by
  simp only [State.stopAction, State.addFrame_unless_suppressed, State.closePacket_eq]
  rfl

/-! The rows: the bus cycle, the action, and where the driver goes on. -/

/-- Settles O23: the action of Direction has one case. -/
theorem directionField : Obligations.DirectionField := by
  unfold Obligations.DirectionField
  intro s m e h
  have hstep := State.fsmStep_of_cycleAt (f := .direction) nofun h (State.directionAction_eq _ _)
  refine (exec_fsmRow_of_goOn hstep).trans ?_
  simp [State.movedTo]

/-- Settles O27: the field is complete when the countdown stands at 1, and goes on else. -/
theorem argumentField : Obligations.ArgumentField := by
  unfold Obligations.ArgumentField
  rintro s m e _ h hnormal rfl
  split
  · next hlast =>
    have hstep := State.fsmStep_of_cycleAt (f := .argumentField) nofun h
      (State.fsmAction_argumentField_of_last hnormal hlast)
    refine (exec_fsmRow_of_goOn hstep).trans ?_
    simp [State.movedTo]
  · next hmore =>
    have hstep := State.fsmStep_of_cycleAt (f := .argumentField) nofun h
      (State.fsmAction_argumentField_of_not_last hnormal hmore)
    exact exec_fsmRow_of_goOn hstep

/-- Settles O29: the field is complete when the countdown stands at 1, and goes on else. -/
theorem crc7Field : Obligations.Crc7Field := by
  unfold Obligations.Crc7Field
  rintro s m e _ h rfl
  split
  · next hlast =>
    have hstep := State.fsmStep_of_cycleAt (f := .crc7) nofun h (State.crc7Action_of_last hlast)
    refine (exec_fsmRow_of_goOn hstep).trans ?_
    simp [State.movedTo]
  · next hmore =>
    have hstep := State.fsmStep_of_cycleAt (f := .crc7) nofun h (State.crc7Action_of_not_last hmore)
    exact exec_fsmRow_of_goOn hstep

/-- Settles O30: the action of Stop has one case, and the driver reports progress where the clock stands, at the
midpoint. -/
theorem stopField : Obligations.StopField := by
  unfold Obligations.StopField
  intro s m e h
  have hstep := State.fsmStep_of_cycleAt (f := .stop) nofun h (State.stopAction_eq _ _)
  refine (exec_fsmRow_of_complete hstep).trans ?_
  simp [State.movedTo, State.progress, State.emit, Cursor.placed]

end Sys2Proof.Machine
end

section
/-! PROOFS. The decode map and the encoder (spec/30_encoding.md): the forms of an instruction, the reassembly of a frame from
its fields, and the two round trips. -/

namespace Sys2Proof

/-! Control words. -/

theorem controlPhase_append (p f : BitVec 3) : controlPhase (p ++ f) = p := by
  revert p f; decide

theorem controlFrameState_append (p f : BitVec 3) : controlFrameState (p ++ f) = f := by
  revert p f; decide

/-- A control word is the encoding of what it decodes to. -/
theorem encode_of_decodeControl {cw : BitVec 6} {i : Instr} (h : decodeControl cw = .ok i) : encode i = .control cw := by
  have key : ∀ cw : BitVec 6, ((decodeControl cw).toOption.map encode).all (· == .control cw) = true := by decide
  simpa [h, Except.toOption] using key cw

/-! The reassembly of a frame: with a start bit of 0, a frame is packed from its own fields (R46 to R48). -/

theorem extract_append_extract {n : Nat} (w : BitVec n) (k a b : Nat) :
    w.extractLsb' (k + b) a ++ w.extractLsb' k b = w.extractLsb' k (a + b) := by
  apply BitVec.eq_of_getLsbD_eq
  intro i hi
  simp only [BitVec.getLsbD_append, BitVec.getLsbD_extractLsb']
  by_cases hb : i < b
  · simp [hb, hi]
  · simp [hb, hi, show i - b < a by omega, show k + b + (i - b) = k + i by omega]

theorem pack48_fields {w : BitVec 48} (hstart : start48 w = 0) :
    pack48 (dir48 w) (index48 w) (arg48 w) (crc48 w) (stop48 w) = w := by
  have h : start48 w ++ dir48 w ++ index48 w ++ arg48 w ++ crc48 w ++ stop48 w = w := by
    simp only [start48, dir48, index48, arg48, crc48, stop48]
    rw [extract_append_extract w 46 1 1, extract_append_extract w 40 2 6, extract_append_extract w 8 8 32,
      extract_append_extract w 1 40 7, extract_append_extract w 0 47 1, BitVec.extractLsb'_eq_self]
  rwa [hstart] at h

theorem pack136_fields {w : BitVec 136} (hstart : start136 w = 0) (hdir : dir136 w = 0) :
    pack136 (index136 w) (argHigh136 w) (argLow136 w) (stop136 w) = w := by
  have h : start136 w ++ dir136 w ++ index136 w ++ argHigh136 w ++ argLow136 w ++ stop136 w = w := by
    simp only [start136, dir136, index136, argHigh136, argLow136, stop136]
    rw [extract_append_extract w 134 1 1, extract_append_extract w 128 2 6, extract_append_extract w 64 8 64,
      extract_append_extract w 1 72 63, extract_append_extract w 0 135 1, BitVec.extractLsb'_eq_self]
  rwa [hstart, hdir] at h

theorem eq_zero_of_ne_one {b : BitVec 1} (h : b ≠ 1) : b = 0 := by
  revert b; decide

/-! The command rows. -/

theorem encode_hostCommand (n : BitVec 6) (arg : BitVec 32) (crc : BitVec 7) (stop : BitVec 1) :
    encode (hostCommand n arg crc stop) = .frame48 (hostFrame n arg crc stop) := by
  obtain ⟨k, hk⟩ := n
  interval_cases k <;> rfl

theorem encode_of_appCommand {n : BitVec 6} {arg : BitVec 32} {crc : BitVec 7} {stop : BitVec 1} {i : Instr}
    (h : appCommand n arg crc stop = some i) : encode i = .frame48 (hostFrame n arg crc stop) := by
  obtain ⟨k, hk⟩ := n
  interval_cases k <;> cases h <;> rfl

/-- `ACMDn` and `CMDn` are different rows, though their words are the same (R63). -/
theorem appCommand_ne_hostCommand {n : BitVec 6} {arg : BitVec 32} {crc : BitVec 7} {stop : BitVec 1} {i : Instr}
    (h : appCommand n arg crc stop = some i) : hostCommand n arg crc stop ≠ i := by
  obtain ⟨k, hk⟩ := n
  interval_cases k <;> cases h <;> exact nofun

theorem command_of_hostFrame {n : BitVec 6} {arg : BitVec 32} {crc : BitVec 7} {stop : BitVec 1} {i : Instr}
    {w : BitVec 48} (hw : hostFrame n arg crc stop = w)
    (hrow : hostCommand n arg crc stop = i ∨ appCommand n arg crc stop = some i) :
    hostCommand (index48 w) (arg48 w) (crc48 w) (stop48 w) = i ∨
      appCommand (index48 w) (arg48 w) (crc48 w) (stop48 w) = some i := by
  subst hw
  simpa [hostFrame] using hrow

/-- The rows of the host-to-slave frames: an instruction encoded as such a frame is the CMD row of the frame's fields, or
their ACMD row. -/
theorem command_of_encode {i : Instr} {w : BitVec 48} (h : encode i = .frame48 w) (hdir : dir48 w = 1) :
    hostCommand (index48 w) (arg48 w) (crc48 w) (stop48 w) = i ∨
      appCommand (index48 w) (arg48 w) (crc48 w) (stop48 w) = some i := by
  cases i with
  | locate | arbitrate | extractByte | fsmStartBit | fsmDirection | fsmCommandField | fsmArgumentField | fsmCrc7 | fsmStop
  | halt | rspLong | data1 | data4 => cases h
  | rsp idx arg crc stop =>
    cases h
    simp [responseFrame] at hdir
  | acmd6 | acmd13 | acmd17 | acmd18 | acmd19 | acmd20 | acmd21 | acmd22 | acmd23 | acmd24 | acmd25 | acmd38 | acmd39
  | acmd40 | acmd41 | acmd42 | acmd43 | acmd44 | acmd45 | acmd46 | acmd47 | acmd48 | acmd49 | acmd51 =>
    exact command_of_hostFrame (BusUnit.frame48.inj h) (.inr rfl)
  | _ => exact command_of_hostFrame (BusUnit.frame48.inj h) (.inl rfl)

/-- The row of the slave-to-host frames of 48 bits. -/
theorem rsp_of_encode {i : Instr} {w : BitVec 48} (h : encode i = .frame48 w) (hdir : dir48 w ≠ 1) :
    i = .rsp (index48 w) (arg48 w) (crc48 w) (stop48 w) := by
  cases i with
  | locate | arbitrate | extractByte | fsmStartBit | fsmDirection | fsmCommandField | fsmArgumentField | fsmCrc7 | fsmStop
  | halt | rspLong | data1 | data4 => cases h
  | rsp idx arg crc stop =>
    cases h
    simp [responseFrame]
  | _ => cases h; simp [hostFrame] at hdir

theorem start48_of_encode {i : Instr} {w : BitVec 48} (h : encode i = .frame48 w) : start48 w = 0 := by
  cases i with
  | locate | arbitrate | extractByte | fsmStartBit | fsmDirection | fsmCommandField | fsmArgumentField | fsmCrc7 | fsmStop
  | halt | rspLong | data1 | data4 => cases h
  | rsp => cases h; exact start48_pack48 ..
  | _ => cases h; exact start48_pack48 ..

/-! The context of a row, by the form of its unit (R59, R63). -/

theorem contextHolds_of_hostOnly {i : Instr} {ctx : BusContext} {w : BitVec 48} (h : encode i = .frame48 w)
    (hdir : dir48 w = 1) (hlookup : appCommand (index48 w) (arg48 w) (crc48 w) (stop48 w) = none) :
    i.contextHolds ctx = true := by
  simp only [Instr.contextHolds, h, hdir, hlookup, if_true]

theorem contextHolds_of_shared {i j : Instr} {ctx : BusContext} {w : BitVec 48} (h : encode i = .frame48 w)
    (hdir : dir48 w = 1) (hlookup : appCommand (index48 w) (arg48 w) (crc48 w) (stop48 w) = some j) :
    i.contextHolds ctx = if i = j then ctx.appPrefix else !ctx.appPrefix := by
  simp only [Instr.contextHolds, h, hdir, hlookup, if_true]

theorem contextHolds_of_response {i : Instr} {ctx : BusContext} {w : BitVec 48} (h : encode i = .frame48 w)
    (hdir : dir48 w ≠ 1) : i.contextHolds ctx = !ctx.longResponse := by
  simp only [Instr.contextHolds, h, if_neg hdir]

/-! Decoding of 48-bit frames, both ways. -/

theorem decode48_of_encode {i : Instr} {ctx : BusContext} {w : BitVec 48} (h : encode i = .frame48 w)
    (hctx : i.contextHolds ctx = true) : decode48 ctx w = .ok i := by
  have hstart : start48 w ≠ 1 := by rw [start48_of_encode h]; decide
  by_cases hdir : dir48 w = 1
  · rw [decode48, if_neg hstart, if_pos hdir]
    rcases command_of_encode h hdir with hhost | happ
    · cases hlookup : appCommand (index48 w) (arg48 w) (crc48 w) (stop48 w) with
      | none => simp [hhost]
      | some j =>
        have hne : i ≠ j := hhost ▸ appCommand_ne_hostCommand hlookup
        have hprefix : ctx.appPrefix = false := by
          simpa [contextHolds_of_shared h hdir hlookup, hne] using hctx
        simp [hprefix, hhost]
    · have hprefix : ctx.appPrefix = true := by simpa [contextHolds_of_shared h hdir happ] using hctx
      simp [hprefix, happ]
  · rw [contextHolds_of_response h hdir] at hctx
    rw [decode48, if_neg hstart, if_neg hdir, ← rsp_of_encode h hdir]
    simp_all

theorem encode_of_decode48 {i : Instr} {ctx : BusContext} {w : BitVec 48} (h : decode48 ctx w = .ok i) :
    encode i = .frame48 w ∧ i.contextHolds ctx = true := by
  by_cases hstart : start48 w = 1
  · simp [decode48, hstart] at h
  have hfields := pack48_fields (eq_zero_of_ne_one hstart)
  rw [decode48, if_neg hstart] at h
  by_cases hdir : dir48 w = 1
  · rw [if_pos hdir] at h
    rw [hdir] at hfields
    cases hrow : (if ctx.appPrefix then appCommand (index48 w) (arg48 w) (crc48 w) (stop48 w) else none) with
    | some j =>
      obtain ⟨hprefix, happ⟩ : ctx.appPrefix = true ∧ appCommand (index48 w) (arg48 w) (crc48 w) (stop48 w) = some j := by
        simpa using hrow
      obtain rfl : j = i := by simpa [hrow] using h
      have hencode : encode j = .frame48 w := by rw [encode_of_appCommand happ, hostFrame, hfields]
      exact ⟨hencode, by simp [contextHolds_of_shared hencode hdir happ, hprefix]⟩
    | none =>
      obtain rfl : hostCommand (index48 w) (arg48 w) (crc48 w) (stop48 w) = i := by simpa [hrow] using h
      have hencode := encode_hostCommand (index48 w) (arg48 w) (crc48 w) (stop48 w)
      rw [hostFrame, hfields] at hencode
      refine ⟨hencode, ?_⟩
      cases hlookup : appCommand (index48 w) (arg48 w) (crc48 w) (stop48 w) with
      | none => exact contextHolds_of_hostOnly hencode hdir hlookup
      | some j =>
        rw [contextHolds_of_shared hencode hdir hlookup, if_neg (appCommand_ne_hostCommand hlookup)]
        simpa [hlookup] using hrow
  · rw [if_neg hdir] at h
    obtain ⟨hlong, rfl⟩ : ctx.longResponse = false ∧ Instr.rsp (index48 w) (arg48 w) (crc48 w) (stop48 w) = i := by
      cases hlong : ctx.longResponse <;> simp_all
    rw [eq_zero_of_ne_one hdir] at hfields
    have hencode : encode (.rsp (index48 w) (arg48 w) (crc48 w) (stop48 w)) = .frame48 w := congrArg _ hfields
    exact ⟨hencode, by rw [contextHolds_of_response hencode hdir, hlong]; rfl⟩

theorem encode_of_decode136 {i : Instr} {ctx : BusContext} {w : BitVec 136} (h : decode136 ctx w = .ok i) :
    encode i = .frame136 w ∧ i.contextHolds ctx = true := by
  unfold decode136 at h
  split_ifs at h with hstart hdir hlong
  cases h
  have hencode : encode (.rspLong (index136 w) (argHigh136 w) (argLow136 w) (stop136 w)) = .frame136 w :=
    congrArg _ (pack136_fields (eq_zero_of_ne_one hstart) (eq_zero_of_ne_one hdir))
  exact ⟨hencode, by simp [Instr.contextHolds, hencode, hlong]⟩

/-- A control row is decoded by its phase code, and with the phase AnalyzeCommand by its `frame_state` code. -/
theorem decodeControl_of_encode {i : Instr} {cw : BitVec 6} (h : encode i = .control cw) : decodeControl cw = .ok i := by
  cases i with
  | locate sss | arbitrate sss | extractByte sss | halt sss =>
    cases h
    simp [decodeControl, controlPhase_append, controlFrameState_append]
  | fsmStartBit | fsmDirection | fsmCommandField | fsmArgumentField | fsmCrc7 | fsmStop => cases h; rfl
  | _ => cases h

/-- Settles O4: by the unit the instruction encodes to; of the two rows that share a 48-bit frame, the context selects. -/
theorem decodeOfEncode : Obligations.DecodeOfEncode := by
  unfold Obligations.DecodeOfEncode
  intro i ctx _ hctx
  cases hu : encode i with
  | control cw => exact decodeControl_of_encode hu
  | frame48 w => exact decode48_of_encode hu hctx
  | frame136 w =>
    have hlong : ctx.longResponse = true := by simpa [Instr.contextHolds, hu] using hctx
    cases i with
    | rspLong idx hi lo stop =>
      cases hu
      simp [decode, decode136, hlong]
    | _ => cases hu
  | unit1 d =>
    have hdat : ctx.nDat = 1 := by simpa [Instr.contextHolds, hu] using hctx
    cases i with
    | data1 d => cases hu; simp [decode, hdat]
    | _ => cases hu
  | unit4 d =>
    have hdat : ctx.nDat = 4 := by simpa [Instr.contextHolds, hu] using hctx
    cases i with
    | data4 d => cases hu; simp [decode, hdat]
    | _ => cases hu

/-- Settles O5: by the decoder the unit is given to. -/
theorem encodeOfDecode : Obligations.EncodeOfDecode := by
  unfold Obligations.EncodeOfDecode
  intro ctx u i h
  cases u with
  | control cw =>
    have hencode := encode_of_decodeControl h
    exact ⟨hencode, by simp [Instr.contextHolds, hencode]⟩
  | frame48 w => exact encode_of_decode48 h
  | frame136 w => exact encode_of_decode136 h
  | unit1 d =>
    obtain ⟨hdat, rfl⟩ : ctx.nDat = 1 ∧ Instr.data1 d = i := by
      by_cases hdat : ctx.nDat = 1 <;> simp_all [decode]
    exact ⟨rfl, by simp [Instr.contextHolds, encode, hdat]⟩
  | unit4 d =>
    obtain ⟨hdat, rfl⟩ : ctx.nDat = 4 ∧ Instr.data4 d = i := by
      by_cases hdat : ctx.nDat = 4 <;> simp_all [decode]
    exact ⟨rfl, by simp [Instr.contextHolds, encode, hdat]⟩

/-- Settles O1: each unit is a literal, and the decoders evaluate. -/
theorem unitsDecodeToTheirRows : Obligations.UnitsDecodeToTheirRows := by
  unfold Obligations.UnitsDecodeToTheirRows
  refine ⟨?_, ?_, ?_, ?_, ?_, ?_, ?_, ?_, ?_, ?_, ?_, ?_⟩ <;> rfl

/-- Settles O2: a control word gives back its two codes, and the decoder reads them. -/
theorem controlWordSelectsByPhase : Obligations.ControlWordSelectsByPhase := by
  unfold Obligations.ControlWordSelectsByPhase
  intro p f
  rw [decodeControl, controlPhase_controlWord, controlFrameState_controlWord]
  cases p <;> cases f <;> rfl

/-- Settles O3: there are 64 control words. -/
theorem reservedControlWordsAreRefused : Obligations.ReservedControlWordsAreRefused := by
  unfold Obligations.ReservedControlWordsAreRefused
  intro cw
  obtain ⟨k, hk⟩ := cw
  interval_cases k <;> simp [decodeControl, controlPhase, controlFrameState]

end Sys2Proof
end

section
/-! PROOFS. The iteration, the packet operations, the configuration and the start of a run (spec/45_decode_driver.md,
spec/60_exceptions.md section 2, spec/10_state.md section 9). -/

namespace Sys2Proof.Machine

/-! The step (R116, R118). -/

theorem State.polled_eq (s : State) :
    s.polled =
      if s.phase = .terminated then s else { s with cancelRequests := s.cancelRequests.tail, presented := none } := rfl

theorem step_of_cancelled {s : State} (h : s.cancelled = true) : step s = .next (s.polled.terminate .cancelled) :=
  if_pos h

theorem step_of_fetch {s : State} {i : Instr} (hcancel : s.cancelled = false) (hfetch : s.fetch = .ok i) :
    step s = exec i s.polled := by
  simp [step, hcancel, hfetch]

theorem step_of_unmatched {s : State} {e : DecodeError} (hcancel : s.cancelled = false) (hfetch : s.fetch = .error e) :
    step s = s.polled.runUnmatched s.fetchUnit := by
  simp [step, hcancel, hfetch]

theorem State.fetchUnit_of_terminated {s : State} (h : s.phase = .terminated) :
    s.fetchUnit = .control (controlWord s.phase s.frameState) :=
  if_pos h

theorem State.fetchUnit_of_running {s : State} (h : s.phase ≠ .terminated) :
    s.fetchUnit = s.presented.getD (.control (controlWord s.phase s.frameState)) :=
  if_neg h

theorem State.cancelled_of_terminated {s : State} (h : s.phase = .terminated) : s.cancelled = false := by
  simp [State.cancelled, h]

/-- Settles O6: `fetchUnit` and `polled` are the unit and the state of the statement. -/
theorem stepRunsTheDecodedInstruction : Obligations.StepRunsTheDecodedInstruction := by
  unfold Obligations.StepRunsTheDecodedInstruction
  intro s i hcancel _ hdecode
  exact step_of_fetch hcancel hdecode

/-! The packet operations (R111 to R113) and TERMINATE (R121). -/

theorem State.terminate_eq (r : Reason) (s : State) :
    s.terminate r =
      { s with phase := .terminated, packetOpen := false, out := s.out ++ terminationEvents s.packetOpen r } := by
  cases s with | mk =>
  simp only [State.terminate, State.cancelOpenPacket, terminationEvents]
  split <;> simp_all [State.cancelPacket, State.emit]

/-- Settles O59: each operation is one update of `packet_open`, `out` and, for TERMINATE, the phase. -/
theorem packetOperations : Obligations.PacketOperations := by
  unfold Obligations.PacketOperations
  intro s f r
  exact ⟨rfl, s.closePacket_eq, s.terminate_eq r⟩

/-- Settles O7: the request is looked at before anything else, and TERMINATE keeps every register. -/
theorem cancelRequestEndsTheRun : Obligations.CancelRequestEndsTheRun := by
  unfold Obligations.CancelRequestEndsTheRun
  intro s hphase hrequest
  have hcancel : s.cancelled = true := by
    simpa [State.cancelled, State.cancelRequest, hphase] using hrequest
  rw [step_of_cancelled hcancel, State.terminate_eq, State.polled_eq, if_neg hphase]

/-! HALT. -/

theorem step_of_terminated {s : State} (h : s.phase = .terminated) : step s = .next s := by
  have hfetch : s.fetch = .ok (.halt s.frameState.code) := by
    rw [State.fetch, State.fetchUnit_of_terminated h, h]
    exact controlWordSelectsByPhase .terminated s.frameState
  rw [step_of_fetch (State.cancelled_of_terminated h) hfetch, State.polled_eq, if_pos h]
  rfl

/-- Settles O8: the HALT row is what a step decodes once the run is over. -/
theorem haltIsANoOperation : Obligations.HaltIsANoOperation := by
  unfold Obligations.HaltIsANoOperation
  exact ⟨fun _ _ => rfl, fun _ => step_of_terminated⟩

/-! The data rows outside their format (log 11, log 12). -/

/-- Settles O42: the rows match on the active data lines. -/
theorem dataRowsNeedTheirLines : Obligations.DataRowsNeedTheirLines := by
  unfold Obligations.DataRowsNeedTheirLines
  intro d sss s
  refine ⟨fun hdat => ?_, fun hdat => ?_, fun hdat => ?_⟩
  · simp [exec, execExtractByte, hdat]
  · cases hlines : s.dat with
    | absent | four => simp [exec, execData1, hlines]
    | one d0 => simp [State.nDat, hlines, DataSet.count] at hdat
  · cases hlines : s.dat with
    | absent | one => simp [exec, execData4, hlines]
    | four => simp [State.nDat, hlines, DataSet.count] at hdat

/-! The start of a run (R29, R127). -/

/-- Settles O49: the two definitions, written out. -/
theorem resetState : Obligations.ResetState := by
  unfold Obligations.ResetState
  exact ⟨fun _ _ _ _ _ _ => rfl, rfl⟩

theorem configure_of_illegal {r : HostRequest} {c : Capture} (cr : List Bool) (h : r.lines c = none) :
    configure r c cr = .fault (.configError .invalidDataLineCount) := by
  simp [configure, HostRequest.checked, h]

theorem configure_of_overlap {r : HostRequest} {c : Capture} {lines : DataSet Line} (cr : List Bool)
    (h : r.lines c = some lines) (hoverlap : ¬ r.channels.Nodup) :
    configure r c cr = .fault (.configError .overlappingChannels) := by
  simp [configure, HostRequest.checked, h, hoverlap]

theorem configure_of_accepted {r : HostRequest} {c : Capture} {lines : DataSet Line} (cr : List Bool)
    (h : r.lines c = some lines) (hdistinct : r.channels.Nodup) :
    configure r c cr = .next (State.initial
      ⟨r.sampleEdge, r.suppressDataFrames, r.suppressStartStopFrames, r.chanClk, r.chanCmd, r.chanDat.filterMap id⟩
      c.nSamples c.clk c.cmd lines cr) := by
  simp [configure, HostRequest.checked, h, hdistinct]

/-- The legal selections of data lines (R127 (1)). -/
def legalSelections : List (List Bool) := [[false, false, false, false], [true, false, false, false], [true, true, true, true]]

/-- The lines of a legal selection. -/
def selectedLines (sel : List Bool) (c : Capture) : DataSet Line :=
  if sel = [false, false, false, false] then .absent
  else if sel = [true, false, false, false] then .one c.dat0
  else .four c.dat0 c.dat1 c.dat2 c.dat3

theorem HostRequest.lines_eq (r : HostRequest) (c : Capture) :
    r.lines c =
      if r.chanDat.map Option.isSome ∈ legalSelections then some (selectedLines (r.chanDat.map Option.isSome) c)
      else none := by
  simp only [HostRequest.lines, HostRequest.chanDat, List.map_cons, List.map_nil]
  cases r.chanDat0.isSome <;> cases r.chanDat1.isSome <;> cases r.chanDat2.isSome <;> cases r.chanDat3.isSome <;> rfl

/-- Settles O58: the selection is checked before the channels. -/
theorem configurationIsCheckedBeforeTheRun : Obligations.ConfigurationIsCheckedBeforeTheRun := by
  unfold Obligations.ConfigurationIsCheckedBeforeTheRun
  rintro r c cr _ _ rfl rfl
  have hlines := r.lines_eq c
  refine ⟨fun hillegal => configure_of_illegal cr (hlines.trans (if_neg hillegal)), fun hlegal => ⟨?_, ?_⟩⟩
  · exact configure_of_overlap cr (hlines.trans (if_pos hlegal))
  · exact configure_of_accepted cr (hlines.trans (if_pos hlegal))

/-- Settles O50: at the start every cursor stands at sample 0 with the initial level, and nothing is emitted. -/
theorem runsStartInTheInvariants : Obligations.RunsStartInTheInvariants := by
  unfold Obligations.RunsStartInTheInvariants
  have hstart : ∀ (n : Nat) (l : Line), 1 ≤ n → l.wf n = true → (Cursor.atStart l).wf n = true := fun n l hn hl =>
    Cursor.wf_iff.2 ⟨hl, hn, Cursor.atStart_level_eq_levelAt hl⟩
  have key : ∀ (g : Configuration) (n : Nat) (clk cmd : Line) (dat : DataSet Line) (cr : List Bool),
      1 ≤ n → n < 2 ^ 64 → clk.wf n = true → cmd.wf n = true → (∀ l ∈ dat.toList, l.wf n = true) →
      (State.initial g n clk cmd dat cr).ControlInv ∧ (State.initial g n clk cmd dat cr).OutputInv := by
    intro g n clk cmd dat cr hn hlt hclk hcmd hdat
    refine ⟨⟨rfl, ?_, ?_, rfl, rfl, by simp [State.initial]⟩, ?_⟩
    · refine State.cursorsWf_iff.2 ⟨⟨hn, hlt⟩, hstart n clk hn hclk, hstart n cmd hn hcmd, fun d hd => ?_⟩
      obtain ⟨l, hl, rfl⟩ : ∃ l ∈ dat.toList, Cursor.atStart l = d := by simpa [State.initial] using hd
      exact hstart n l hn (hdat l hl)
    · simp [State.dataAtClock, State.initial, Cursor.atStart]
    · simp [State.OutputInv, State.initial, State.orderOk, State.nextInOrder, State.endedBeforeClock, State.afterAll,
        framesOf, State.packetOk, packetScan, State.terminationOk]
  refine ⟨key, key .reset 1 .idle .idle .absent [] le_rfl (by decide) (by decide) (by decide) (by decide)⟩

/-! Lines and cursors (R31, R66 to R72). -/

theorem Line.idx_succ {n : Nat} {l : Line} (hl : l.wf n = true) (p : Nat) :
    l.idx (p + 1) = l.idx p + if p + 1 ∈ l.edges then 1 else 0 := by
  obtain ⟨hsorted, -⟩ := Line.wf_iff.1 hl
  have hnodup : l.edges.Nodup := hsorted.imp Nat.ne_of_lt
  have hsplit : l.idx (p + 1) = l.idx p + l.edges.countP (· == p + 1) := by
    rw [Line.idx, Line.idx, ← List.countP_eq_length_filter, ← List.countP_eq_length_filter]
    generalize l.edges = es
    induction es with
    | nil => rfl
    | cons q qs ih =>
      simp only [List.countP_cons, ih, decide_eq_true_eq, beq_iff_eq]
      split_ifs <;> omega
  rw [hsplit]
  congr 1
  split_ifs with hmem
  · exact List.count_eq_one_of_mem hnodup hmem
  · exact List.count_eq_zero_of_not_mem hmem

/-- Settles O10: `idx` grows by one at a transition, and each transition toggles the level. -/
theorem lineLevelTogglesAtTransitions : Obligations.LineLevelTogglesAtTransitions := by
  unfold Obligations.LineLevelTogglesAtTransitions
  intro n l hl
  refine ⟨by rw [Line.levelAt_eq_toggled_idx, Line.idx_zero hl, toggled_zero], fun p => ?_⟩
  rw [Line.levelAt_eq_toggled_idx, Line.idx_succ hl, ← toggled_toggled, ← Line.levelAt_eq_toggled_idx]
  split_ifs
  · rw [toggled_one]
  · rw [toggled_zero]

theorem Cursor.ahead_eq_nil_iff {c : Cursor} : c.ahead = [] ↔ ∀ q ∈ c.line.edges, q ≤ c.pos := by
  simp [Cursor.ahead]

/-- Settles O12: the first transition ahead is `nextAfter` the cursor's position, and a movement to a position leaves the
cursor placed there. -/
theorem cursorOperations : Obligations.CursorOperations := by
  unfold Obligations.CursorOperations
  intro n c hc
  obtain ⟨-, hpos, hlevel⟩ := Cursor.wf_iff.1 hc
  refine ⟨fun q hq => ?_, fun hnone => ?_, fun p => ⟨fun hp => ?_, fun hp hn => ?_, fun hp hn => ?_⟩, ?_⟩
  · obtain ⟨qs, hqs⟩ : ∃ qs, c.ahead = q :: qs := Line.nextAfter_iff.1 hq
    exact ⟨Cursor.nextEdge_of_nextAfter hc hq, Cursor.peek_of_nextAfter hq, by simp [Cursor.hasMore, hqs],
      fun p => by simp [Cursor.wouldCross, hqs]⟩
  · have hahead := Cursor.ahead_eq_nil_iff.2 hnone
    exact ⟨Cursor.nextEdge_error.2 ⟨hahead, rfl⟩, Cursor.peek_error.2 ⟨hahead, rfl⟩, by simp [Cursor.hasMore, hahead],
      fun p => by simp [Cursor.wouldCross, hahead]⟩
  · exact Cursor.toAbs_error.2 (.inl ⟨hp, rfl⟩)
  · exact Cursor.toAbs_error.2 (.inr ⟨hp, hn, rfl⟩)
  · exact Cursor.toAbs_of_wf hc hp hn
  · rw [Cursor.toAbs_of_wf hc le_rfl hpos, ← Cursor.eq_placed hlevel]

end Sys2Proof.Machine
end

section
/-! PROOFS. The Frame State Machine: the bus cycles (R95, R96), the rows of StartBit and CommandField and the long case of
ArgumentField (R97, R99, R100, R102), a signal in the bus cycle (R109, R131), and the presented units that no row
matches. -/

namespace Sys2Proof.Machine

/-! The two bus cycles. -/

/-- Settles O19: the cycle of the lines, the marker appended. -/
theorem busCycle : Obligations.BusCycle := by
  unfold Obligations.BusCycle
  exact fun _ _ _ h => State.cycle_of_cycleAt h

/-- A cell in place: the clock stands on the midpoint, and the two other kinds of cursor are brought to it (R96). -/
theorem State.sampleHere_of_cellAt {s : State} {e : Nat} (h : s.cellAt s.clk.pos e = true) :
    s.sampleHere = .ok { mid := s.clk.pos, cycleEnd := e, bit := s.cmd.line.levelAt s.clk.pos }
      ((s.movedTo s.clk.pos).marker s.clk.pos .sampleEdge .clk) := by
  obtain ⟨hwf, hcmdpos, hdatpos, hend⟩ := State.cellAt_iff.1 h
  obtain ⟨-, hclk, hcmd, hdat⟩ := State.cursorsWf_iff.1 hwf
  obtain ⟨-, hpos, hlevel⟩ := Cursor.wf_iff.1 hclk
  have hlines : s.dat.each (Cursor.toAbs s.nSamples s.clk.pos) = (s.dat.map (fun d => .placed d.line s.clk.pos), none) :=
    DataSet.each_of_forall_ok fun d hd => Cursor.toAbs_of_wf (hdat d hd) (hdatpos d hd) hpos
  refine State.sampleHere_ok.2 ⟨_, _, e, Cursor.toAbs_of_wf hcmd hcmdpos hpos, hlines, Cursor.peek_of_nextAfter hend,
    rfl, ?_⟩
  simp only [State.movedTo, ← Cursor.eq_placed hlevel]
  rfl

/-- The first cycle of an exchange, by the three cases of START_CYCLE (R96). -/
theorem State.startCycle_of_startCycleAt {s : State} {m e : Nat} (h : s.startCycleAt m e = true) :
    s.startCycle = .ok { mid := m, cycleEnd := e, bit := s.cmd.line.levelAt m }
      ((s.movedTo m).marker m .sampleEdge .clk) := by
  unfold State.startCycleAt at h
  unfold State.startCycle
  split at h
  · next hbehind =>
    obtain ⟨⟨hwf, hn⟩, hcycle⟩ : (s.cursorsWf = true ∧ s.cmdStartSample < s.nSamples) ∧
        ({ s with clk := .placed s.clk.line s.cmdStartSample } : State).cycleAt m e = true := by simpa using h
    obtain ⟨-, hclk, -, -⟩ := State.cursorsWf_iff.1 hwf
    have hmove : s.clkTo s.cmdStartSample = .ok () { s with clk := .placed s.clk.line s.cmdStartSample } :=
      State.clkTo_ok.2 ⟨_, Cursor.toAbs_of_wf hclk hbehind.le hn, rfl⟩
    rw [if_pos hbehind, hmove, Res.andThen_of_ok, State.cycle_of_cycleAt hcycle]
    rfl
  · next hreached =>
    rw [if_neg hreached]
    split at h
    · next hmid =>
      obtain ⟨hcell, rfl⟩ : s.cellAt m e = true ∧ m = s.clk.pos := by simpa using h
      rw [if_pos hmid, State.sampleHere_of_cellAt hcell]
    · next hboundary => rw [if_neg hboundary, State.cycle_of_cycleAt h]

/-- Settles O20: the first cycle of the lines, the marker appended. -/
theorem startBitCycle : Obligations.StartBitCycle := by
  unfold Obligations.StartBitCycle
  exact fun _ _ _ h => State.startCycle_of_startCycleAt h

/-! FSM.StartBit (R97). -/

theorem State.startBitAction_of_high {c : Cycle} {s : State} (h : c.bit = true) : s.startBitAction c = (.abort, s) :=
  if_pos h

theorem State.startBitAction_of_low {c : Cycle} {s : State} (h : c.bit = false) :
    s.startBitAction c = (.goOn, { s with
      frameState := .direction, fieldStart := c.cycleEnd
      packetOpen := s.packetOpen || !s.config.suppressStartStopFrames
      out := s.out ++ [.marker s.cmdStartSample .startMark .cmd]
        ++ shown s.config.suppressStartStopFrames (.upTo .start s.cmdStartSample c.cycleEnd 0 0 0) }) := by
  simp only [State.startBitAction, h, State.addFrame_unless_suppressed]
  rfl

/-- The StartBit row on a bit of its cycle, sampled or supplied. -/
theorem State.fsmStep_startBit_of_startCycleAt {s u : State} {m e : Nat} {r : FsmResult} (sup : Option SuppliedBit)
    (h : s.startCycleAt m e = true)
    (haction : ((s.movedTo m).marker m .sampleEdge .clk).startBitAction
      { mid := m, cycleEnd := e, bit := (sup.map (·.bit)).getD (s.cmd.line.levelAt m) } = (r, u)) :
    s.fsmStep .startBit sup = .ok r u := by
  rw [State.fsmStep_eq, State.fsmCycle, State.startCycle_of_startCycleAt h]
  exact congrArg (fun p => Res.ok p.1 p.2) haction

/-- Settles O21: the low bit confirms the start. -/
theorem startBitConfirmed : Obligations.StartBitConfirmed := by
  unfold Obligations.StartBitConfirmed
  intro s m e h hlow
  have hstep := State.fsmStep_startBit_of_startCycleAt none h (State.startBitAction_of_low hlow)
  refine (exec_fsmRow_of_goOn (f := .startBit) hstep).trans ?_
  simp [State.movedTo]

theorem State.analyze_of_abort {s u : State} {f : FrameState} {sup : Option SuppliedBit}
    (h : s.fsmStep f sup = .ok .abort u) : s.analyze f sup = ({ u with phase := .findCmdStart } : State).progress := by
  rw [State.analyze_eq, h]

/-- The soft reset: a high bit, sampled or supplied, goes back to the search (R97, R132). -/
theorem State.analyze_startBit_of_high {s : State} {m e : Nat} {sup : Option SuppliedBit}
    (h : s.startCycleAt m e = true) (hhigh : (sup.map (·.bit)).getD (s.cmd.line.levelAt m) = true) :
    s.analyze .startBit sup =
      { s.movedTo m with phase := .findCmdStart, out := s.out ++ [.marker m .sampleEdge .clk, .progress m] } := by
  have hstep := State.fsmStep_startBit_of_startCycleAt sup h (State.startBitAction_of_high hhigh)
  rw [State.analyze_of_abort hstep]
  simp [State.movedTo, State.progress, State.emit, State.marker, Cursor.placed]

/-- Settles O22: the high bit is the soft reset. -/
theorem startBitSoftReset : Obligations.StartBitSoftReset := by
  unfold Obligations.StartBitSoftReset
  intro s m e h hhigh
  exact (exec_fsmRow .startBit s).trans (congrArg _ (State.analyze_startBit_of_high (sup := none) h hhigh))

/-! FSM.CommandField (R99, R100). -/

theorem State.commandFieldAction_of_not_last {cls : Option FrameClass} {c : Cycle} {s : State} (hmore : s.countdown ≠ 1) :
    s.commandFieldAction cls c = (.goOn, { s with acc := shl1 s.acc c.bit, countdown := s.countdown - 1 }) :=
  if_neg (mt sub_eq_zero.1 hmore)

theorem State.commandFieldAction_of_last {cls : Option FrameClass} {c : Cycle} {s : State} (hlast : s.countdown = 1) :
    s.commandFieldAction cls c =
      (.goOn, ({ s with acc := shl1 s.acc c.bit, countdown := 0 } : State).completeCommand
        (cls.getD (s.classify ((shl1 s.acc c.bit).setWidth 6))) c) := by
  have hdone : s.countdown - 1 = 0 := sub_eq_zero.2 hlast
  simp only [State.commandFieldAction, hdone, if_true]
  rfl

/-- Whether a class of frame is a host command, which is remembered (R14). -/
def FrameClass.isHost : FrameClass → Bool
  | .command => true
  | .appCommand => true
  | .response => false
  | .longResponse => false

/-- Whether the argument that follows is long (R100). -/
def FrameClass.isLong : FrameClass → Bool
  | .command => false
  | .appCommand => false
  | .response => false
  | .longResponse => true

/-- The completion of CommandField, for every classification (R100). -/
theorem State.completeCommand_eq (cls : FrameClass) (c : Cycle) (s : State) :
    s.completeCommand cls c = { s with
      frameState := .argumentField, respLong := cls.isLong
      lastHostCmd := if cls.isHost then s.acc.setWidth 6 else s.lastHostCmd
      lastHostCmdValid := cls.isHost || s.lastHostCmdValid
      fieldStart := c.cycleEnd, countdown := if cls.isLong then 127 else 32, acc := 0, hi := 0, nbits := 0
      packetOpen := true
      out := s.out ++ [.addFrame (.upTo cls.kind s.fieldStart c.cycleEnd ((s.acc.setWidth 6).setWidth 64) 0
        (s.contextByte cls))] } := by
  cases cls <;> rfl

/-- Settles O24: a countdown that is not 1 is not 0 after the decrement. -/
theorem commandFieldAccumulates : Obligations.CommandFieldAccumulates := by
  unfold Obligations.CommandFieldAccumulates
  intro s m e h hmore
  have hstep := State.fsmStep_of_cycleAt (f := .commandField) nofun h (State.commandFieldAction_of_not_last hmore)
  exact exec_fsmRow_of_goOn hstep

/-- R100's test of a host command, with the ACMD set written out. -/
theorem State.isAppCommand_iff {s : State} {v : BitVec 6} :
    s.isAppCommand v = true ↔ s.lastHostCmdValid = true ∧ s.lastHostCmd = 55 ∧
      v.toNat ∈ [6, 13, 17, 18, 19, 20, 21, 22, 23, 24, 25, 38, 39, 40, 41, 42, 43, 44, 45, 46, 47, 48, 49, 51] := by
  have hset : Config.ACMD_SET.contains v = true ↔
      v.toNat ∈ [6, 13, 17, 18, 19, 20, 21, 22, 23, 24, 25, 38, 39, 40, 41, 42, 43, 44, 45, 46, 47, 48, 49, 51] := by
    revert v; decide
  rw [State.isAppCommand, Bool.and_eq_true, hset]
  simp [BusContext.appPrefix, State.context, Config.APP_CMD_PREFIX, and_assoc]

theorem State.classify_of_host {s : State} {v : BitVec 6} (hdir : s.dir = true) :
    s.classify v = if s.isAppCommand v then .appCommand else .command :=
  if_pos hdir

theorem State.classify_of_response {s : State} {v : BitVec 6} (hdir : s.dir = false) :
    s.classify v = if s.context.longResponse then .longResponse else .response := by
  simp [State.classify, hdir]

theorem State.longResponse_eq (s : State) :
    s.context.longResponse =
      (s.lastHostCmdValid && (s.lastHostCmd == 2 || s.lastHostCmd == 9 || s.lastHostCmd == 10)) := by
  simp [BusContext.longResponse, State.context, Config.LONG_RESP_CMDS, Bool.or_assoc, Bool.beq_eq_decide_eq]

/-- The completing cycle of CommandField on the lines. -/
theorem exec_fsmCommandField_of_last {s : State} {m e : Nat} {cls : FrameClass} (h : s.cycleAt m e = true)
    (hlast : s.countdown = 1) (hcls : s.classify ((shl1 s.acc (s.cmd.line.levelAt m)).setWidth 6) = cls) :
    exec .fsmCommandField s = .next { s.movedTo m with
      phase := .analyzeCommand, frameState := .argumentField, respLong := cls.isLong
      lastHostCmd := if cls.isHost then (shl1 s.acc (s.cmd.line.levelAt m)).setWidth 6 else s.lastHostCmd
      lastHostCmdValid := cls.isHost || s.lastHostCmdValid
      fieldStart := e, countdown := if cls.isLong then 127 else 32, acc := 0, hi := 0, nbits := 0, packetOpen := true
      out := s.out ++ [.marker m .sampleEdge .clk, .addFrame (.upTo cls.kind s.fieldStart e
        (((shl1 s.acc (s.cmd.line.levelAt m)).setWidth 6).setWidth 64) 0 (s.contextByte cls))] } := by
  have haction := State.commandFieldAction_of_last (cls := none) (s := (s.movedTo m).marker m .sampleEdge .clk)
    (c := { mid := m, cycleEnd := e, bit := s.cmd.line.levelAt m }) hlast
  rw [Option.getD_none, State.completeCommand_eq] at haction
  have hstep := State.fsmStep_of_cycleAt (f := .commandField) nofun h haction
  refine (exec_fsmRow_of_goOn hstep).trans ?_
  have hsame : ((s.movedTo m).marker m .sampleEdge .clk).classify
      ((shl1 ((s.movedTo m).marker m .sampleEdge .clk).acc (s.cmd.line.levelAt m)).setWidth 6) = cls := hcls
  rw [hsame]
  cases cls <;> simp [State.movedTo] <;> rfl

/-- Settles O25: with dir 1 the class is AppCommand or Command, and both are remembered. -/
theorem hostCommandFieldCompletes : Obligations.HostCommandFieldCompletes := by
  unfold Obligations.HostCommandFieldCompletes
  rintro s m e v h hlast hdir rfl
  rw [exec_fsmCommandField_of_last h hlast (State.classify_of_host hdir)]
  simp only [← State.isAppCommand_iff]
  cases s.isAppCommand ((shl1 s.acc (s.cmd.line.levelAt m)).setWidth 6) <;> rfl

/-- Settles O26: with dir 0 the class is LongResponse or Response, and neither is remembered. -/
theorem responseFieldCompletes : Obligations.ResponseFieldCompletes := by
  unfold Obligations.ResponseFieldCompletes
  rintro s m e v long h hlast hdir rfl rfl
  rw [exec_fsmCommandField_of_last h hlast (State.classify_of_response hdir), State.longResponse_eq]
  cases s.lastHostCmdValid && (s.lastHostCmd == 2 || s.lastHostCmd == 9 || s.lastHostCmd == 10) <;> rfl

/-! FSM.ArgumentField, long case (R102). -/

/-- The accumulator and `hi` after the bit of a cycle: the 64th bit completes `hi` (R102). -/
theorem State.longArgumentAction_eq (c : Cycle) (s : State) {a h : Word64}
    (hh : h = if s.nbits = 63 then shl1 s.acc c.bit else s.hi) (ha : a = if s.nbits = 63 then 0 else shl1 s.acc c.bit) :
    s.longArgumentAction c = (.goOn,
      if s.countdown = 1 then { s with
        frameState := .stop, acc := shl1 a false, hi := h, nbits := s.nbits + 1, countdown := 0, fieldStart := c.cycleEnd
        packetOpen := true
        out := s.out ++ [.addFrame (.upTo .longArgument s.fieldStart c.cycleEnd h (shl1 a false) 0)] }
      else { s with acc := a, hi := h, nbits := s.nbits + 1, countdown := s.countdown - 1 }) := by
  have hsaved : s.nbits + 1 = 64 ↔ s.nbits = 63 := (add_left_inj 1 : s.nbits + 1 = 63 + 1 ↔ _)
  have hdone : s.countdown - 1 = 0 ↔ s.countdown = 1 := sub_eq_zero
  subst hh ha
  simp only [State.longArgumentAction, hsaved]
  split_ifs with hcount hlast <;> simp_all [State.addFrame, State.emit] <;> rfl

/-- Settles O28: whether the bit is the 64th, and whether it is the last. -/
theorem longArgumentField : Obligations.LongArgumentField := by
  unfold Obligations.LongArgumentField
  intro s m e a h hcycle hlong hh ha
  have hbranch : ((s.movedTo m).marker m .sampleEdge .clk).fsmAction .argumentField none
      { mid := m, cycleEnd := e, bit := s.cmd.line.levelAt m } =
      ((s.movedTo m).marker m .sampleEdge .clk).longArgumentAction
        { mid := m, cycleEnd := e, bit := s.cmd.line.levelAt m } := if_pos hlong
  have hstep := State.fsmStep_of_cycleAt (f := .argumentField) nofun hcycle
    (hbranch.trans (State.longArgumentAction_eq _ _ hh ha))
  refine (exec_fsmRow_of_goOn hstep).trans ?_
  have hcountdown : ((s.movedTo m).marker m .sampleEdge .clk).countdown = s.countdown := rfl
  rw [hcountdown]
  split_ifs <;> simp [State.movedTo]

/-! A signal in the bus cycle (R109): it leaves the registers, the configuration and the output as they were. -/

/-- The state `u` differs from `s` in its cursors only. -/
def State.CursorsOnly (s u : State) : Prop := u = { s with clk := u.clk, cmd := u.cmd, dat := u.dat }

theorem State.CursorsOnly.refl (s : State) : s.CursorsOnly s := rfl

theorem State.CursorsOnly.trans {s u v : State} (h : s.CursorsOnly u) (g : u.CursorsOnly v) : s.CursorsOnly v := by
  rw [State.CursorsOnly] at *
  rw [g, h]

theorem State.clkNextEdge_cursorsOnly (s : State) : s.CursorsOnly s.clkNextEdge.state := by
  unfold State.clkNextEdge
  split <;> rfl

theorem State.clkTo_cursorsOnly (p : Nat) (s : State) : s.CursorsOnly (s.clkTo p).state := by
  unfold State.clkTo
  split <;> rfl

theorem State.cmdTo_cursorsOnly (p : Nat) (s : State) : s.CursorsOnly (s.cmdTo p).state := by
  unfold State.cmdTo
  split <;> rfl

theorem State.datTo_cursorsOnly (p : Nat) (s : State) : s.CursorsOnly (s.datTo p).state := by
  unfold State.datTo
  split <;> rfl

theorem State.clkPeek_cursorsOnly (s : State) : s.CursorsOnly s.clkPeek.state := by
  unfold State.clkPeek
  split <;> rfl

theorem State.toBoundary_cursorsOnly (s : State) : s.CursorsOnly s.toBoundary.state := by
  unfold State.toBoundary
  split
  · exact s.clkNextEdge_cursorsOnly
  · rfl

/-- An operation that moved cursors only, then one whose signal leaves cursors only moved. -/
theorem State.cursorsOnly_of_andThen_signal {α β : Type} {s u : State} {r : Res α} {f : α → State → Res β} {x : Signal}
    (hr : s.CursorsOnly r.state) (hf : ∀ a v, f a v = .signal x u → v.CursorsOnly u) (h : r.andThen f = .signal x u) :
    s.CursorsOnly u := by
  rcases Res.andThen_signal.1 h with rfl | ⟨a, v, rfl, hv⟩
  · exact hr
  · exact hr.trans (hf a v hv)

theorem State.cursorsOnly_of_sampleHere_signal {s u : State} {x : Signal} (h : s.sampleHere = .signal x u) :
    s.CursorsOnly u := by
  refine State.cursorsOnly_of_andThen_signal (s.cmdTo_cursorsOnly _) (fun _ v hv => ?_) h
  refine State.cursorsOnly_of_andThen_signal (v.datTo_cursorsOnly _) (fun _ w hw => ?_) hv
  exact State.cursorsOnly_of_andThen_signal w.clkPeek_cursorsOnly (fun _ _ hx => by cases hx) hw

theorem State.cursorsOnly_of_cycle_signal {s u : State} {x : Signal} (h : s.cycle = .signal x u) : s.CursorsOnly u := by
  refine State.cursorsOnly_of_andThen_signal s.toBoundary_cursorsOnly (fun _ v hv => ?_) h
  exact State.cursorsOnly_of_andThen_signal v.clkNextEdge_cursorsOnly
    (fun _ _ hw => State.cursorsOnly_of_sampleHere_signal hw) hv

theorem State.cursorsOnly_of_fsmCycle_signal {f : FrameState} {s u : State} {x : Signal}
    (h : s.fsmCycle f = .signal x u) : s.CursorsOnly u := by
  cases f with
  | startBit =>
    rw [State.fsmCycle, State.startCycle] at h
    split_ifs at h
    · exact State.cursorsOnly_of_andThen_signal (s.clkTo_cursorsOnly _)
        (fun _ _ hv => State.cursorsOnly_of_cycle_signal hv) h
    · exact State.cursorsOnly_of_sampleHere_signal h
    · exact State.cursorsOnly_of_cycle_signal h
  | direction | commandField | argumentField | crc7 | stop => exact State.cursorsOnly_of_cycle_signal h

/-- Settles O31: the action of the sub-state is not reached, and the bus cycle has moved cursors only. -/
theorem fsmSignalEndsTheRun : Obligations.FsmSignalEndsTheRun := by
  unfold Obligations.FsmSignalEndsTheRun
  intro f s u x h
  have hu : u = { s with clk := u.clk, cmd := u.cmd, dat := u.dat } := State.cursorsOnly_of_fsmCycle_signal h
  rw [exec_fsmRow, State.analyze_eq, State.fsmStep_eq, h]
  simp only [State.terminate_eq]
  rw [hu]

/-! The presented units that no row matches (log 8). -/

theorem exec_ne_refused (i : Instr) (s : State) (r : Refusal) : exec i s ≠ .refused r := by
  cases i with
  | extractByte => simp only [exec, execExtractByte]; cases s.dat <;> exact nofun
  | data1 => simp only [exec, execData1]; cases s.dat <;> exact nofun
  | data4 => simp only [exec, execData4]; cases s.dat <;> exact nofun
  | _ => exact nofun

theorem step_ne_refused (s : State) (r : Refusal) : step s ≠ .refused r := by
  unfold step
  split
  · exact nofun
  · split
    · exact exec_ne_refused _ _ _
    · cases s.fetchUnit <;> exact nofun

theorem bitsOf_eq_cons {n : Nat} (w : BitVec (n + 1)) : ∃ bs, bitsOf w = w.msb :: bs := by
  simp [bitsOf, List.range_succ_eq_map, BitVec.msb]

theorem msb_of_start48 {w : BitVec 48} (h : start48 w = 1) : w.msb = true := by
  have hbit : (start48 w).getLsbD 0 = true := by rw [h]; rfl
  simpa [start48, BitVec.msb_eq_getLsbD_last] using hbit

theorem msb_of_start136 {w : BitVec 136} (h : start136 w = 1) : w.msb = true := by
  have hbit : (start136 w).getLsbD 0 = true := by rw [h]; rfl
  simpa [start136, BitVec.msb_eq_getLsbD_last] using hbit

/-- The exchange of a frame with start bit 1 is the soft reset (R59 (b), R132). -/
theorem State.exchange_of_startBit_one {s : State} {m e : Nat} {bs : List Bool} (h : s.startCycleAt m e = true) :
    s.exchange none (true :: bs) = { s.movedTo m with
      phase := .findCmdStart, frameState := .startBit, out := s.out ++ [.marker m .sampleEdge .clk, .progress m] } := by
  have hcycle : ({ s with phase := .analyzeCommand, frameState := .startBit } : State).startCycleAt m e = true := h
  rw [State.exchange_notAFrame, State.analyze_startBit_of_high hcycle rfl]
  rfl

theorem step_of_presented_unmatched {s : State} {u : BusUnit} {e : DecodeError} (hcancel : s.cancelled = false)
    (hphase : s.phase ≠ .terminated) (hunit : s.presented = some u) (hdecode : decode s.context u = .error e) :
    step s = ({ s with cancelRequests := s.cancelRequests.tail, presented := none } : State).runUnmatched u := by
  have hfetch : s.fetchUnit = u := by rw [State.fetchUnit_of_running hphase, hunit, Option.getD_some]
  rw [step_of_unmatched hcancel (by rw [State.fetch, hfetch, hdecode]), hfetch, State.polled_eq, if_neg hphase]

/-- Settles O9: the decoder refuses each of the units, and `runUnmatched` says what it does. -/
theorem unmatchedUnits : Obligations.UnmatchedUnits := by
  unfold Obligations.UnmatchedUnits
  refine ⟨fun s u hcancel hphase hunit => ⟨?_, ?_, ?_⟩, step_ne_refused⟩
  · rintro cw e rfl hdecode
    exact step_of_presented_unmatched hcancel hphase hunit hdecode
  · intro m e hframe hcycle
    have hexchange : ∀ bs, ({ s with cancelRequests := s.cancelRequests.tail, presented := none } : State).exchange
        none (true :: bs) = _ := fun bs => State.exchange_of_startBit_one hcycle
    rcases hframe with ⟨w, rfl, hstart⟩ | ⟨w, rfl, hstart⟩
    · obtain ⟨bs, hbits⟩ := bitsOf_eq_cons w
      rw [step_of_presented_unmatched hcancel hphase hunit (e := .notAFrame) (by simp [decode, decode48, hstart]),
        State.runUnmatched, hbits, msb_of_start48 hstart, hexchange]
      rfl
    · obtain ⟨bs, hbits⟩ := bitsOf_eq_cons w
      rw [step_of_presented_unmatched hcancel hphase hunit (e := .notAFrame) (by simp [decode, decode136, hstart]),
        State.runUnmatched, hbits, msb_of_start136 hstart, hexchange]
      rfl
  · rintro d (⟨rfl, hdat⟩ | ⟨rfl, hdat⟩)
    all_goals
      have hformat : ¬ s.context.nDat = _ := hdat
      rw [step_of_presented_unmatched hcancel hphase hunit (e := .formatNotSelected) (by simp [decode, hformat])]
      rfl

end Sys2Proof.Machine
end

section
/-! PROOFS. What no operation of the block does: move a cursor backward, change a line or a host input, or revise the output
(R41 (c), R73, R39). One relation between the state before and the state after, kept by every operation and hence by every
step. -/

namespace Sys2Proof.Machine

/-! Data lines that moved forward. -/

/-- Every active data cursor moved forward along its line. -/
inductive DataSet.Moved : DataSet Cursor → DataSet Cursor → Prop where
  | absent : Moved .absent .absent
  | one {c d : Cursor} (h : c.Moved d) : Moved (.one c) (.one d)
  | four {c0 c1 c2 c3 d0 d1 d2 d3 : Cursor} (h0 : c0.Moved d0) (h1 : c1.Moved d1) (h2 : c2.Moved d2) (h3 : c3.Moved d3) :
      Moved (.four c0 c1 c2 c3) (.four d0 d1 d2 d3)

theorem DataSet.Moved.refl (d : DataSet Cursor) : d.Moved d := by
  cases d with
  | absent => exact .absent
  | one c => exact .one (.refl c)
  | four c0 c1 c2 c3 => exact .four (.refl c0) (.refl c1) (.refl c2) (.refl c3)

theorem DataSet.Moved.trans {d e f : DataSet Cursor} (h : d.Moved e) (g : e.Moved f) : d.Moved f := by
  cases h with
  | absent => exact g
  | one h =>
    cases g with
    | one g => exact .one (h.trans g)
  | four h0 h1 h2 h3 =>
    cases g with
    | four g0 g1 g2 g3 => exact .four (h0.trans g0) (h1.trans g1) (h2.trans g2) (h3.trans g3)

theorem DataSet.Moved.lines_eq {d e : DataSet Cursor} (h : d.Moved e) : e.map (·.line) = d.map (·.line) := by
  cases h with
  | absent => rfl
  | one h => simp only [DataSet.map, h.1]
  | four h0 h1 h2 h3 => simp only [DataSet.map, h0.1, h1.1, h2.1, h3.1]

theorem DataSet.Moved.pos_le {d e : DataSet Cursor} (h : d.Moved e) :
    ∀ x ∈ List.zip d.toList e.toList, x.1.pos ≤ x.2.pos := by
  cases h with
  | absent => simp [DataSet.toList]
  | one h => simpa [DataSet.toList] using h.2
  | four h0 h1 h2 h3 => simpa [DataSet.toList] using ⟨h0.2, h1.2, h2.2, h3.2⟩

/-- A data-line loop moves its lines forward, also where it signals part way (R41 (a)). -/
theorem DataSet.moved_each {f : Cursor → Except Signal Cursor} (hf : ∀ c d, f c = .ok d → c.Moved d)
    (d : DataSet Cursor) : d.Moved (d.each f).1 := by
  have keep : ∀ c : Cursor, c.Moved c := Cursor.Moved.refl
  cases d with
  | absent => exact .absent
  | one d0 =>
    simp only [DataSet.each]
    split
    · exact .refl _
    · next h => exact .one (hf _ _ h)
  | four d0 d1 d2 d3 =>
    simp only [DataSet.each]
    split
    · exact .refl _
    · next h0 =>
      split
      · exact .four (hf _ _ h0) (keep _) (keep _) (keep _)
      · next h1 =>
        split
        · exact .four (hf _ _ h0) (hf _ _ h1) (keep _) (keep _)
        · next h2 =>
          split
          · exact .four (hf _ _ h0) (hf _ _ h1) (hf _ _ h2) (keep _)
          · next h3 => exact .four (hf _ _ h0) (hf _ _ h1) (hf _ _ h2) (hf _ _ h3)

/-! The relation. -/

/-- From `s` to `t` the cursors moved forward along their lines, the host's inputs stayed, and the output grew. -/
structure State.Forward (s t : State) : Prop where
  clk : s.clk.Moved t.clk
  cmd : s.cmd.Moved t.cmd
  dat : s.dat.Moved t.dat
  config : t.config = s.config
  nSamples : t.nSamples = s.nSamples
  out : s.out <+: t.out

theorem State.Forward.refl (s : State) : s.Forward s :=
  ⟨.refl _, .refl _, .refl _, rfl, rfl, List.prefix_rfl⟩

theorem State.Forward.trans {s t u : State} (h : s.Forward t) (g : t.Forward u) : s.Forward u :=
  ⟨h.clk.trans g.clk, h.cmd.trans g.cmd, h.dat.trans g.dat, g.config.trans h.config, g.nSamples.trans h.nSamples,
    h.out.trans g.out⟩

/-- Writing registers and appending to the output is a movement forward. -/
theorem State.forward_of_cursors_eq {s t : State} (hclk : t.clk = s.clk) (hcmd : t.cmd = s.cmd) (hdat : t.dat = s.dat)
    (hconfig : t.config = s.config) (hn : t.nSamples = s.nSamples) (hout : s.out <+: t.out) : s.Forward t :=
  ⟨hclk ▸ .refl _, hcmd ▸ .refl _, hdat ▸ .refl _, hconfig, hn, hout⟩

/-- The output is kept as it is by most register writes. -/
theorem State.forward_of_registers {s t : State} (hclk : t.clk = s.clk) (hcmd : t.cmd = s.cmd) (hdat : t.dat = s.dat)
    (hconfig : t.config = s.config) (hn : t.nSamples = s.nSamples) (hout : t.out = s.out) : s.Forward t :=
  State.forward_of_cursors_eq hclk hcmd hdat hconfig hn (hout ▸ List.prefix_rfl)

theorem State.forward_of_andThen {α β : Type} {s : State} {r : Res α} {f : α → State → Res β} (hr : s.Forward r.state)
    (hf : ∀ (a : α) (u : State), u.Forward (f a u).state) : s.Forward (r.andThen f).state := by
  cases r with
  | signal x u => exact hr
  | ok a u => exact hr.trans (hf a u)

/-! Output operations. -/

theorem State.emit_forward (e : Event) (s : State) : s.Forward (s.emit e) :=
  State.forward_of_cursors_eq rfl rfl rfl rfl rfl (List.prefix_append _ _)

theorem State.closePacket_forward (s : State) : s.Forward s.closePacket :=
  State.forward_of_cursors_eq (by simp) (by simp) (by simp) (by simp) (by simp) (by simp)

theorem State.terminate_forward (r : Reason) (s : State) : s.Forward (s.terminate r) :=
  State.forward_of_cursors_eq (by simp) (by simp) (by simp) (by simp) (by simp) (by simp [List.append_assoc])

theorem State.forward_of_orTerminate {α : Type} {s : State} {r : Res α} {f : α → State → State} (hr : s.Forward r.state)
    (hf : ∀ (a : α) (u : State), u.Forward (f a u)) : s.Forward (r.orTerminate f) := by
  cases r with
  | signal x u => exact hr.trans (u.terminate_forward _)
  | ok a u => exact hr.trans (hf a u)

/-! Cursor operations. -/

theorem State.clkNextEdge_forward (s : State) : s.Forward s.clkNextEdge.state := by
  unfold State.clkNextEdge
  split
  · next c hc => exact ⟨Cursor.moved_of_nextEdge hc, .refl _, .refl _, rfl, rfl, List.prefix_rfl⟩
  · exact .refl s

theorem State.clkTo_forward (p : Nat) (s : State) : s.Forward (s.clkTo p).state := by
  unfold State.clkTo
  split
  · next c hc => exact ⟨Cursor.moved_of_toAbs hc, .refl _, .refl _, rfl, rfl, List.prefix_rfl⟩
  · exact .refl s

theorem State.cmdTo_forward (p : Nat) (s : State) : s.Forward (s.cmdTo p).state := by
  unfold State.cmdTo
  split
  · next c hc => exact ⟨.refl _, Cursor.moved_of_toAbs hc, .refl _, rfl, rfl, List.prefix_rfl⟩
  · exact .refl s

theorem State.datTo_forward (p : Nat) (s : State) : s.Forward (s.datTo p).state := by
  have hmoved : s.dat.Moved (s.dat.each (Cursor.toAbs s.nSamples p)).1 :=
    DataSet.moved_each (fun _ _ h => Cursor.moved_of_toAbs h) s.dat
  unfold State.datTo
  split <;> next h =>
    rw [h] at hmoved
    exact ⟨.refl _, .refl _, hmoved, rfl, rfl, List.prefix_rfl⟩

theorem State.clkPeek_forward (s : State) : s.Forward s.clkPeek.state := by
  unfold State.clkPeek
  split <;> exact .refl s

/-! The larger operations, in the order of their definitions. -/

theorem State.locatePasses_forward (fuel : Nat) (s : State) : s.Forward (s.locatePasses fuel).state := by
  obtain ⟨m, p, v, h, hmoved⟩ := State.locatePasses_frame fuel s
  rw [h]
  exact ⟨.refl _, hmoved, .refl _, rfl, rfl, List.prefix_rfl⟩

theorem State.arbitratePasses_forward (fuel : Nat) (s : State) : s.Forward (s.arbitratePasses fuel).state := by
  induction fuel generalizing s with
  | zero => exact .refl s
  | succ fuel ih =>
    unfold State.arbitratePasses
    split
    · exact .refl s
    · simp only
      split_ifs
      · exact State.forward_of_registers rfl rfl rfl rfl rfl rfl
      · exact .refl s
      · exact State.forward_of_andThen (s.clkTo_forward _) fun _ u =>
          State.forward_of_andThen (u.datTo_forward _) fun _ v => ih v

theorem State.fixSamplingEdge_forward (s : State) : s.Forward s.fixSamplingEdge.state := by
  unfold State.fixSamplingEdge
  split
  · exact .refl s
  · exact s.clkNextEdge_forward

theorem State.alignClock_forward (s : State) : s.Forward s.alignClock.state :=
  State.forward_of_andThen s.clkNextEdge_forward fun _ u =>
    State.forward_of_andThen u.clkNextEdge_forward fun _ v => v.fixSamplingEdge_forward

theorem State.alignData_forward (s : State) : s.Forward s.alignData.state :=
  State.forward_of_andThen (s.clkTo_forward _) fun _ u => State.forward_of_andThen (u.datTo_forward _) fun _ v =>
    State.forward_of_andThen v.alignClock_forward fun _ w => State.forward_of_andThen (w.datTo_forward _) fun _ _ =>
      State.forward_of_registers rfl rfl rfl rfl rfl rfl

theorem State.packGroup_forward (src : Option Byte) (s : State) : s.Forward (s.packGroup src) := by
  unfold State.packGroup
  split <;> exact State.forward_of_registers rfl rfl rfl rfl rfl rfl

theorem State.bitStep_forward (src : Option Byte) (s : State) : s.Forward (s.bitStep src).state := by
  have hpacked : s.Forward ((s.marker s.clk.pos .sampleEdge .clk).packGroup src) :=
    (s.emit_forward _).trans (State.packGroup_forward src _)
  exact State.forward_of_andThen (hpacked.trans (State.clkNextEdge_forward _)) fun _ u =>
    State.forward_of_andThen u.clkNextEdge_forward fun _ v => State.forward_of_andThen (v.datTo_forward _) fun _ w =>
      .refl w

theorem State.interruptionTest_forward (s : State) : s.Forward s.interruptionTest.state := by
  unfold State.interruptionTest
  split
  · refine State.forward_of_andThen s.clkPeek_forward fun q u => ?_
    split_ifs
    · exact State.forward_of_andThen (State.locatePasses_forward _ u) fun _ v => .refl v
    · exact .refl u
    · exact .refl u
  · exact .refl s

theorem State.completeByte_forward (boundary : Nat) (s : State) : s.Forward (s.completeByte boundary) := by
  unfold State.completeByte
  rw [State.addFrame_unless_suppressed]
  exact State.forward_of_cursors_eq rfl rfl rfl rfl rfl (by simp [List.append_assoc])

theorem State.endBlock_forward (s : State) : s.Forward s.endBlock.state := by
  refine State.forward_of_andThen ((s.closePacket_forward.trans (State.emit_forward _ _)).trans
    (State.arbitratePasses_forward _ _)) fun a u => ?_
  cases a with
  | dataPresent => exact State.forward_of_andThen u.alignData_forward fun _ v => .refl v
  | noData => exact .refl u

theorem State.extractPasses_forward (src : Option Byte) (fuel : Nat) (s : State) :
    s.Forward (s.extractPasses src fuel).state := by
  induction fuel generalizing s with
  | zero => exact .refl s
  | succ fuel ih =>
    refine State.forward_of_andThen (s.bitStep_forward src) fun boundary u =>
      State.forward_of_andThen u.interruptionTest_forward fun interrupted v => ?_
    have hbyte : v.Forward (if v.dnb = 8 then v.completeByte boundary else v) := by
      split
      · exact v.completeByte_forward boundary
      · exact .refl v
    dsimp only
    generalize (if v.dnb = 8 then v.completeByte boundary else v) = w at hbyte ⊢
    split_ifs
    · exact hbyte.trans w.closePacket_forward
    · exact hbyte.trans w.endBlock_forward
    · exact hbyte
    · exact hbyte.trans (ih w)

/-! The Frame State Machine. -/

theorem State.sampleHere_forward (s : State) : s.Forward s.sampleHere.state :=
  State.forward_of_andThen (s.cmdTo_forward _) fun _ u => State.forward_of_andThen (u.datTo_forward _) fun _ v =>
    State.forward_of_andThen v.clkPeek_forward fun _ w => w.emit_forward _

theorem State.toBoundary_forward (s : State) : s.Forward s.toBoundary.state := by
  unfold State.toBoundary
  split
  · exact s.clkNextEdge_forward
  · exact .refl s

theorem State.cycle_forward (s : State) : s.Forward s.cycle.state :=
  State.forward_of_andThen s.toBoundary_forward fun _ u =>
    State.forward_of_andThen u.clkNextEdge_forward fun _ v => v.sampleHere_forward

theorem State.fsmCycle_forward (f : FrameState) (s : State) : s.Forward (s.fsmCycle f).state := by
  cases f with
  | startBit =>
    rw [State.fsmCycle, State.startCycle]
    split_ifs
    · exact State.forward_of_andThen (s.clkTo_forward _) fun _ u => u.cycle_forward
    · exact s.sampleHere_forward
    · exact s.cycle_forward
  | direction | commandField | argumentField | crc7 | stop => exact s.cycle_forward

/-- An action of a sub-state writes registers of the FSM and appends to the output, and nothing else (R97 to R104). -/
theorem State.fsmAction_frame (f : FrameState) (cls : Option FrameClass) (c : Cycle) (s : State) :
    ∃ f' acc hi countdown nbits dir respLong lastHostCmd lastHostCmdValid fieldStart packetOpen es,
      (s.fsmAction f cls c).2 = { s with
        frameState := f', acc := acc, hi := hi, countdown := countdown, nbits := nbits, dir := dir, respLong := respLong
        lastHostCmd := lastHostCmd, lastHostCmdValid := lastHostCmdValid, fieldStart := fieldStart
        packetOpen := packetOpen, out := s.out ++ es } := by
  have same : s = { s with out := s.out ++ [] } := by rw [List.append_nil]
  cases f with
  | startBit =>
    cases hbit : c.bit with
    | true =>
      rw [State.fsmAction, State.startBitAction_of_high hbit]
      exact ⟨_, _, _, _, _, _, _, _, _, _, _, [], same⟩
    | false =>
      rw [State.fsmAction, State.startBitAction_of_low hbit, List.append_assoc]
      exact ⟨_, _, _, _, _, _, _, _, _, _, _, _, rfl⟩
  | direction =>
    rw [State.fsmAction, State.directionAction_eq]
    exact ⟨_, _, _, _, _, _, _, _, _, _, _, _, rfl⟩
  | commandField =>
    by_cases hlast : s.countdown = 1
    · rw [State.fsmAction, State.commandFieldAction_of_last hlast, State.completeCommand_eq]
      exact ⟨_, _, _, _, _, _, _, _, _, _, _, _, rfl⟩
    · rw [State.fsmAction, State.commandFieldAction_of_not_last hlast]
      exact ⟨_, _, _, _, _, _, _, _, _, _, _, [], by rw [List.append_nil]⟩
  | argumentField =>
    cases hlong : s.respLong with
    | true =>
      rw [State.fsmAction, if_pos hlong, State.longArgumentAction_eq c s rfl rfl]
      by_cases hlast : s.countdown = 1
      · rw [if_pos hlast]
        exact ⟨_, _, _, _, _, _, _, _, _, _, _, _, rfl⟩
      · rw [if_neg hlast]
        exact ⟨_, _, _, _, _, _, _, _, _, _, _, [], by rw [List.append_nil]⟩
    | false =>
      by_cases hlast : s.countdown = 1
      · rw [State.fsmAction_argumentField_of_last hlong hlast]
        exact ⟨_, _, _, _, _, _, _, _, _, _, _, _, rfl⟩
      · rw [State.fsmAction_argumentField_of_not_last hlong hlast]
        exact ⟨_, _, _, _, _, _, _, _, _, _, _, [], by rw [List.append_nil]⟩
  | crc7 =>
    by_cases hlast : s.countdown = 1
    · rw [State.fsmAction, State.crc7Action_of_last hlast]
      exact ⟨_, _, _, _, _, _, _, _, _, _, _, _, rfl⟩
    · rw [State.fsmAction, State.crc7Action_of_not_last hlast]
      exact ⟨_, _, _, _, _, _, _, _, _, _, _, [], by rw [List.append_nil]⟩
  | stop =>
    rw [State.fsmAction, State.stopAction_eq, List.append_assoc, List.append_assoc]
    exact ⟨_, _, _, _, _, _, _, _, _, _, _, _, rfl⟩

theorem State.fsmAction_forward (f : FrameState) (cls : Option FrameClass) (c : Cycle) (s : State) :
    s.Forward (s.fsmAction f cls c).2 := by
  obtain ⟨_, _, _, _, _, _, _, _, _, _, _, es, h⟩ := s.fsmAction_frame f cls c
  rw [h]
  exact State.forward_of_cursors_eq rfl rfl rfl rfl rfl (List.prefix_append _ _)

theorem State.fsmStep_forward (f : FrameState) (sup : Option SuppliedBit) (s : State) :
    s.Forward (s.fsmStep f sup).state := by
  have hcycle := s.fsmCycle_forward f
  rw [State.fsmStep_eq]
  cases h : s.fsmCycle f with
  | signal x u =>
    rw [h] at hcycle
    exact hcycle
  | ok c u =>
    rw [h] at hcycle
    exact hcycle.trans (u.fsmAction_forward _ _ _)

/-! The driver and the step. -/

theorem State.analyze_forward (f : FrameState) (sup : Option SuppliedBit) (s : State) : s.Forward (s.analyze f sup) := by
  refine State.forward_of_orTerminate (s.fsmStep_forward f sup) fun r u => ?_
  cases r with
  | goOn => exact State.forward_of_registers rfl rfl rfl rfl rfl rfl
  | complete | abort => exact State.forward_of_cursors_eq rfl rfl rfl rfl rfl (List.prefix_append _ _)

theorem State.afterData_forward (s : State) : s.Forward s.afterData := by
  unfold State.afterData
  split
  · exact State.forward_of_registers rfl rfl rfl rfl rfl rfl
  · exact s.terminate_forward _

theorem State.read_forward (src : Option Byte) (s : State) : s.Forward (s.read src) := by
  have hstart : s.Forward { s with dacc := 0, dnb := 0 } := State.forward_of_registers rfl rfl rfl rfl rfl rfl
  refine State.forward_of_orTerminate (hstart.trans (State.extractPasses_forward src 8 _)) fun r u => ?_
  cases r with
  | byteDone | blockDoneMore => exact State.forward_of_registers rfl rfl rfl rfl rfl rfl
  | blockDoneNoMore | interrupted => exact u.afterData_forward

theorem State.iterateLocate_forward (s : State) : s.Forward s.iterateLocate :=
  State.forward_of_orTerminate (State.locatePasses_forward _ s) fun _ _ =>
    State.forward_of_registers rfl rfl rfl rfl rfl rfl

theorem State.iterateArbitrate_forward (s : State) : s.Forward s.iterateArbitrate := by
  have hphase : ∀ (u : State) (p : Phase), u.Forward { u with phase := p } := fun _ _ =>
    State.forward_of_registers rfl rfl rfl rfl rfl rfl
  refine State.forward_of_orTerminate (State.arbitratePasses_forward _ s) fun a u => ?_
  cases a with
  | dataPresent =>
    exact State.forward_of_orTerminate u.alignData_forward fun _ v => (hphase v _).trans (State.read_forward _ _)
  | noData =>
    simp only
    split
    · exact (hphase u _).trans (State.analyze_forward _ _ _)
    · exact u.terminate_forward _

theorem State.taken_forward (s : State) : s.Forward s.taken := State.forward_of_registers rfl rfl rfl rfl rfl rfl

theorem State.exchangeRest_forward (cls : Option FrameClass) (bits : List Bool) (s : State) :
    s.Forward (s.exchangeRest cls bits) := by
  induction bits generalizing s with
  | nil => exact .refl s
  | cons b bits ih =>
    unfold State.exchangeRest
    split_ifs
    · exact s.taken_forward.trans (State.terminate_forward _ _)
    · exact (s.taken_forward.trans (State.analyze_forward _ _ _)).trans (ih _)
    · exact .refl s

theorem State.exchange_forward (cls : Option FrameClass) (bits : List Bool) (s : State) :
    s.Forward (s.exchange cls bits) := by
  cases bits with
  | nil => exact .refl s
  | cons b bits =>
    have hstart : s.Forward { s with phase := .analyzeCommand, frameState := .startBit } :=
      State.forward_of_registers rfl rfl rfl rfl rfl rfl
    exact (hstart.trans (State.analyze_forward _ _ _)).trans (State.exchangeRest_forward _ _ _)

/-- What the row of an instruction can be: one of the five kinds of iteration, or an exchange (R59). -/
theorem exec_next_cases {i : Instr} {s t : State} (h : exec i s = .next t) :
    t = s.iterateLocate ∨ t = s.iterateArbitrate ∨ (∃ src, t = s.read src) ∨ (∃ f, t = s.analyze f none) ∨ t = s ∨
      ∃ cls bits, t = s.exchange cls bits := by
  have hexchange : ∀ {cls bits}, Host.Outcome.next (s.runFrame cls bits) = .next t (φ := Fault) (ρ := Refusal) →
      ∃ cls bits, t = s.exchange cls bits := fun h => ⟨_, _, (Host.Outcome.next.inj h).symm⟩
  cases i with
  | locate => cases h; exact .inl rfl
  | arbitrate => cases h; exact .inr (.inl rfl)
  | extractByte =>
    simp only [exec, execExtractByte] at h
    split at h <;> cases h <;> exact .inr (.inr (.inl ⟨_, rfl⟩))
  | data1 =>
    simp only [exec, execData1] at h
    split at h <;> cases h
    exact .inr (.inr (.inl ⟨_, rfl⟩))
  | data4 =>
    simp only [exec, execData4] at h
    split at h <;> cases h
    exact .inr (.inr (.inl ⟨_, rfl⟩))
  | fsmStartBit | fsmDirection | fsmCommandField | fsmArgumentField | fsmCrc7 | fsmStop =>
    cases h; exact .inr (.inr (.inr (.inl ⟨_, rfl⟩)))
  | halt => cases h; exact .inr (.inr (.inr (.inr (.inl rfl))))
  | _ => exact .inr (.inr (.inr (.inr (.inr (hexchange h)))))

theorem exec_forward {i : Instr} {s t : State} (h : exec i s = .next t) : s.Forward t := by
  rcases exec_next_cases h with rfl | rfl | ⟨_, rfl⟩ | ⟨_, rfl⟩ | rfl | ⟨_, _, rfl⟩
  · exact s.iterateLocate_forward
  · exact s.iterateArbitrate_forward
  · exact s.read_forward _
  · exact s.analyze_forward _ _
  · exact .refl _
  · exact s.exchange_forward _ _

theorem State.polled_forward (s : State) : s.Forward s.polled := by
  unfold State.polled
  split
  · exact .refl s
  · exact s.taken_forward

theorem State.runUnmatched_forward {u : BusUnit} {s t : State} (h : s.runUnmatched u = .next t) : s.Forward t := by
  cases u with
  | control => cases h; exact .refl s
  | frame48 | frame136 => cases h; exact s.exchange_forward _ _
  | unit1 | unit4 => cases h

/-- Every step moves forward, keeps the host's inputs and appends to the output. -/
theorem step_forward {s t : State} (h : step s = .next t) : s.Forward t := by
  unfold step at h
  split at h
  · cases h
    exact s.polled_forward.trans (State.terminate_forward _ _)
  · split at h
    · exact s.polled_forward.trans (exec_forward h)
    · exact s.polled_forward.trans (State.runUnmatched_forward h)

/-- Settles O54: `Forward` says it of every step. -/
theorem stepMovesForwardAndKeepsTheInputs : Obligations.StepMovesForwardAndKeepsTheInputs := by
  unfold Obligations.StepMovesForwardAndKeepsTheInputs
  intro s t h
  have hf := step_forward h
  exact ⟨by rw [State.lines, State.lines, hf.clk.1, hf.cmd.1, hf.dat.lines_eq], hf.config, hf.nSamples, hf.clk.2,
    hf.cmd.2, hf.dat.pos_le⟩

/-- Settles O55: the output after a step begins with the output before it. -/
theorem outputIsAppendOnly : Obligations.OutputIsAppendOnly := by
  unfold Obligations.OutputIsAppendOnly
  intro s t h
  obtain ⟨es, hes⟩ := (step_forward h).out
  exact ⟨es, hes.symm⟩

end Sys2Proof.Machine
end

section
/-! PROOFS. The iteration of a run that takes its units from the lines (R116): the row of each phase; what locating and data
reading leave unchanged; and the one place that writes the last host command (R14, R100). -/

namespace Sys2Proof.Machine

/-! The step of a run: nothing is presented, no cancel request is to be taken. -/

/-- The row a control word selects (R59 (a)). -/
def controlRow (p : Phase) (f : FrameState) : Instr :=
  match p with
  | .findCmdStart => .locate f.code
  | .findDataStart => .arbitrate f.code
  | .readData => .extractByte f.code
  | .analyzeCommand => fsmRow f
  | .terminated => .halt f.code

theorem State.fetch_of_control {s : State} (h : s.presented = none) :
    s.fetch = .ok (controlRow s.phase s.frameState) := by
  have hunit : s.fetchUnit = .control (controlWord s.phase s.frameState) := by simp [State.fetchUnit, h]
  rw [State.fetch, hunit]
  exact (controlWordSelectsByPhase s.phase s.frameState).trans (by cases s.phase <;> rfl)

/-- The row of each phase (R59 (a), R116). -/
def State.iterate (s : State) : Host.Outcome State Fault Refusal :=
  match s.phase with
  | .findCmdStart => .next s.taken.iterateLocate
  | .findDataStart => .next s.taken.iterateArbitrate
  | .readData => execExtractByte s.frameState.code s.taken
  | .analyzeCommand => .next (s.taken.analyze s.frameState none)
  | .terminated => .next s

theorem step_of_control {s : State} (h : s.presented = none) (hcancel : s.cancelled = false) : step s = s.iterate := by
  rw [step_of_fetch hcancel (State.fetch_of_control h)]
  cases hphase : s.phase with
  | analyzeCommand => simp [State.polled, State.iterate, hphase, controlRow, exec_fsmRow]
  | findCmdStart | findDataStart | readData | terminated =>
    simp only [State.polled, State.iterate, hphase, controlRow]
    rfl

/-- A step of a run: the cancel request ends it, or the phase's row runs. -/
theorem step_cases {s t : State} (h : s.presented = none) (hstep : step s = .next t) :
    s.phase ≠ .terminated ∧ t = s.taken.terminate .cancelled ∨
      s.phase = .findCmdStart ∧ t = s.taken.iterateLocate ∨
      s.phase = .findDataStart ∧ t = s.taken.iterateArbitrate ∨
      s.phase = .readData ∧ s.dat ≠ .absent ∧ t = s.taken.read none ∨
      s.phase = .analyzeCommand ∧ t = s.taken.analyze s.frameState none ∨
      s.phase = .terminated ∧ t = s := by
  cases hcancel : s.cancelled with
  | true =>
    obtain ⟨hphase, -⟩ : s.phase ≠ .terminated ∧ s.cancelRequest = true := by simpa [State.cancelled] using hcancel
    rw [step_of_cancelled hcancel, State.polled, if_neg hphase] at hstep
    exact .inl ⟨hphase, (Host.Outcome.next.inj hstep).symm⟩
  | false =>
    rw [step_of_control h hcancel, State.iterate] at hstep
    cases hphase : s.phase with
    | findCmdStart =>
      rw [hphase] at hstep
      exact .inr (.inl ⟨rfl, (Host.Outcome.next.inj hstep).symm⟩)
    | findDataStart =>
      rw [hphase] at hstep
      exact .inr (.inr (.inl ⟨rfl, (Host.Outcome.next.inj hstep).symm⟩))
    | readData =>
      simp only [hphase, execExtractByte, State.taken_dat] at hstep
      cases hdat : s.dat with
      | absent => simp [hdat] at hstep
      | one | four =>
        simp only [hdat, Host.Outcome.next.injEq] at hstep
        exact .inr (.inr (.inr (.inl ⟨rfl, nofun, hstep.symm⟩)))
    | analyzeCommand =>
      rw [hphase] at hstep
      exact .inr (.inr (.inr (.inr (.inl ⟨rfl, (Host.Outcome.next.inj hstep).symm⟩))))
    | terminated =>
      rw [hphase] at hstep
      exact .inr (.inr (.inr (.inr (.inr ⟨rfl, (Host.Outcome.next.inj hstep).symm⟩))))

/-- Settles O53: the one row of a run that can stop is EXTRACT_BYTE without a data line, and the invariant excludes it. -/
theorem invariantStatesAlwaysStep : Obligations.InvariantStatesAlwaysStep := by
  unfold Obligations.InvariantStatesAlwaysStep
  rintro s ⟨hpresented, -, -, hphaseOk, -, -⟩
  cases hcancel : s.cancelled with
  | true => exact ⟨_, step_of_cancelled hcancel⟩
  | false =>
    rw [step_of_control hpresented hcancel, State.iterate]
    cases hphase : s.phase with
    | readData =>
      have hdat : s.dat ≠ .absent := by
        intro habsent
        simp [State.phaseOk, hphase, habsent] at hphaseOk
      simp only [execExtractByte, State.taken_dat]
      cases hlines : s.dat with
      | absent => exact absurd hlines hdat
      | one | four => exact ⟨_, rfl⟩
    | findCmdStart | findDataStart | analyzeCommand | terminated => exact ⟨_, rfl⟩

/-! Locating, arbitrating and reading data leave the FSM's registers and the host's inputs as they were (R77, R84, R94). -/

/-- The states `s` and `t` agree on everything but the cursors, the command start, the registers of the data phase, and the
output. -/
def State.DataOnly (s t : State) : Prop :=
  t = { s with
    clk := t.clk, cmd := t.cmd, dat := t.dat, cmdStartSample := t.cmdStartSample, cmdStartValid := t.cmdStartValid
    dataStartSample := t.dataStartSample, dataBlockStartSample := t.dataBlockStartSample, byteStart := t.byteStart
    dacc := t.dacc, dnb := t.dnb, unitCount := t.unitCount, packetOpen := t.packetOpen, out := t.out }

theorem State.DataOnly.refl (s : State) : s.DataOnly s := rfl

theorem State.DataOnly.trans {s t u : State} (h : s.DataOnly t) (g : t.DataOnly u) : s.DataOnly u := by
  rw [State.DataOnly] at *
  rw [g, h]

theorem State.CursorsOnly.dataOnly {s t : State} (h : s.CursorsOnly t) : s.DataOnly t := by
  rw [State.DataOnly, h]

theorem State.dataOnly_of_andThen {α β : Type} {s : State} {r : Res α} {f : α → State → Res β} (hr : s.DataOnly r.state)
    (hf : ∀ (a : α) (u : State), u.DataOnly (f a u).state) : s.DataOnly (r.andThen f).state := by
  cases r with
  | signal x u => exact hr
  | ok a u => exact hr.trans (hf a u)

theorem State.locate_dataOnly (s : State) : s.DataOnly s.locate.state := by
  obtain ⟨m, p, v, h, -⟩ := s.locate_frame
  rw [h]; rfl

theorem State.arbitrate_dataOnly (s : State) : s.DataOnly s.arbitrate.state := by
  obtain ⟨c, d, p, h, -, -⟩ := s.arbitrate_frame
  rw [h]; rfl

theorem State.fixSamplingEdge_dataOnly (s : State) : s.DataOnly s.fixSamplingEdge.state := by
  unfold State.fixSamplingEdge
  split
  · exact .refl s
  · exact s.clkNextEdge_cursorsOnly.dataOnly

theorem State.alignClock_dataOnly (s : State) : s.DataOnly s.alignClock.state :=
  State.dataOnly_of_andThen s.clkNextEdge_cursorsOnly.dataOnly fun _ u =>
    State.dataOnly_of_andThen u.clkNextEdge_cursorsOnly.dataOnly fun _ v => v.fixSamplingEdge_dataOnly

theorem State.alignData_dataOnly (s : State) : s.DataOnly s.alignData.state :=
  State.dataOnly_of_andThen (s.clkTo_cursorsOnly _).dataOnly fun _ u =>
    State.dataOnly_of_andThen (u.datTo_cursorsOnly _).dataOnly fun _ v =>
      State.dataOnly_of_andThen v.alignClock_dataOnly fun _ w =>
        State.dataOnly_of_andThen (w.datTo_cursorsOnly _).dataOnly fun _ _ => rfl

theorem State.bitStep_dataOnly (src : Option Byte) (s : State) : s.DataOnly (s.bitStep src).state := by
  have hpacked : s.DataOnly ((s.marker s.clk.pos .sampleEdge .clk).packGroup src) := by
    unfold State.packGroup
    split <;> rfl
  exact State.dataOnly_of_andThen (hpacked.trans (State.clkNextEdge_cursorsOnly _).dataOnly) fun _ u =>
    State.dataOnly_of_andThen u.clkNextEdge_cursorsOnly.dataOnly fun _ v =>
      State.dataOnly_of_andThen (v.datTo_cursorsOnly _).dataOnly fun _ w => .refl w

theorem State.interruptionTest_dataOnly (s : State) : s.DataOnly s.interruptionTest.state := by
  unfold State.interruptionTest
  split
  · refine State.dataOnly_of_andThen s.clkPeek_cursorsOnly.dataOnly fun q u => ?_
    split_ifs
    · exact State.dataOnly_of_andThen u.locate_dataOnly fun _ v => .refl v
    · exact .refl u
    · exact .refl u
  · exact .refl s

theorem State.completeByte_dataOnly (boundary : Nat) (s : State) : s.DataOnly (s.completeByte boundary) := by
  unfold State.completeByte
  rw [State.addFrame_unless_suppressed]
  rfl

theorem State.closePacket_dataOnly (s : State) : s.DataOnly s.closePacket := by
  rw [State.closePacket_eq]; rfl

theorem State.endBlock_dataOnly (s : State) : s.DataOnly s.endBlock.state := by
  have hclosed : s.DataOnly s.closePacket.progress := s.closePacket_dataOnly.trans rfl
  refine State.dataOnly_of_andThen (hclosed.trans (State.arbitrate_dataOnly _)) fun a u => ?_
  cases a with
  | dataPresent => exact State.dataOnly_of_andThen u.alignData_dataOnly fun _ v => .refl v
  | noData => exact .refl u

theorem State.extractPasses_dataOnly (src : Option Byte) (fuel : Nat) (s : State) :
    s.DataOnly (s.extractPasses src fuel).state := by
  induction fuel generalizing s with
  | zero => exact .refl s
  | succ fuel ih =>
    refine State.dataOnly_of_andThen (s.bitStep_dataOnly src) fun boundary u =>
      State.dataOnly_of_andThen u.interruptionTest_dataOnly fun interrupted v => ?_
    have hbyte : v.DataOnly (if v.dnb = 8 then v.completeByte boundary else v) := by
      split
      · exact v.completeByte_dataOnly boundary
      · exact .refl v
    dsimp only
    generalize (if v.dnb = 8 then v.completeByte boundary else v) = w at hbyte ⊢
    split_ifs
    · exact hbyte.trans w.closePacket_dataOnly
    · exact hbyte.trans w.endBlock_dataOnly
    · exact hbyte
    · exact hbyte.trans (ih w)

theorem State.extractByte_dataOnly (src : Option Byte) (s : State) : s.DataOnly (s.extractByte src).state := by
  have hstart : s.DataOnly { s with dacc := 0, dnb := 0 } := rfl
  exact hstart.trans (State.extractPasses_dataOnly src 8 _)

/-! The last host command. -/

/-- The last host command of `s` stands in `t` too. -/
def State.SameHost (s t : State) : Prop := t.lastHostCmd = s.lastHostCmd ∧ t.lastHostCmdValid = s.lastHostCmdValid

theorem State.SameHost.trans {s t u : State} (h : s.SameHost t) (g : t.SameHost u) : s.SameHost u :=
  ⟨g.1.trans h.1, g.2.trans h.2⟩

theorem State.DataOnly.sameHost {s t : State} (h : s.DataOnly t) : s.SameHost t := by
  rw [h]; exact ⟨rfl, rfl⟩

theorem State.terminate_sameHost (r : Reason) (s : State) : s.SameHost (s.terminate r) := ⟨by simp, by simp⟩

theorem State.afterData_sameHost (s : State) : s.SameHost s.afterData := by
  unfold State.afterData
  split
  · exact ⟨rfl, rfl⟩
  · exact s.terminate_sameHost _

theorem State.read_sameHost (src : Option Byte) (s : State) : s.SameHost (s.read src) := by
  have hextract := (s.extractByte_dataOnly src).sameHost
  unfold State.read
  cases h : s.extractByte src with
  | signal x u =>
    rw [h] at hextract
    exact hextract.trans (u.terminate_sameHost _)
  | ok r u =>
    rw [h] at hextract
    cases r with
    | byteDone | blockDoneMore => exact hextract
    | blockDoneNoMore | interrupted => exact hextract.trans u.afterData_sameHost

theorem State.iterateLocate_sameHost (s : State) : s.SameHost s.iterateLocate := by
  have hlocate := s.locate_dataOnly.sameHost
  unfold State.iterateLocate
  cases h : s.locate with
  | signal x u =>
    rw [h] at hlocate
    exact hlocate.trans (u.terminate_sameHost _)
  | ok r u =>
    rw [h] at hlocate
    exact hlocate

/-- What a bus cycle leaves: the cursors moved, and at most a marker appended. -/
theorem State.fsmCycle_dataOnly (f : FrameState) (s : State) : s.DataOnly (s.fsmCycle f).state := by
  have hhere : ∀ u : State, u.DataOnly u.sampleHere.state := fun u =>
    State.dataOnly_of_andThen (u.cmdTo_cursorsOnly _).dataOnly fun _ v =>
      State.dataOnly_of_andThen (v.datTo_cursorsOnly _).dataOnly fun _ w =>
        State.dataOnly_of_andThen w.clkPeek_cursorsOnly.dataOnly fun _ _ => rfl
  have hcycle : ∀ u : State, u.DataOnly u.cycle.state := fun u =>
    State.dataOnly_of_andThen u.toBoundary_cursorsOnly.dataOnly fun _ v =>
      State.dataOnly_of_andThen v.clkNextEdge_cursorsOnly.dataOnly fun _ w => hhere w
  cases f with
  | startBit =>
    rw [State.fsmCycle, State.startCycle]
    split_ifs
    · exact State.dataOnly_of_andThen (s.clkTo_cursorsOnly _).dataOnly fun _ u => hcycle u
    · exact hhere s
    · exact hcycle s
  | direction | commandField | argumentField | crc7 | stop => exact hcycle s

/-- The action of a sub-state writes the last host command only where CommandField completes with dir 1 (R14, R100). -/
theorem State.fsmAction_host (f : FrameState) (c : Cycle) (s : State) :
    s.SameHost (s.fsmAction f none c).2 ∨
      f = .commandField ∧ s.dir = true ∧ s.countdown = 1 ∧ (s.fsmAction f none c).2.lastHostCmdValid = true := by
  cases f with
  | startBit =>
    cases hbit : c.bit with
    | true => exact .inl (by rw [State.fsmAction, State.startBitAction_of_high hbit]; exact ⟨rfl, rfl⟩)
    | false => exact .inl (by rw [State.fsmAction, State.startBitAction_of_low hbit]; exact ⟨rfl, rfl⟩)
  | direction => exact .inl (by rw [State.fsmAction, State.directionAction_eq]; exact ⟨rfl, rfl⟩)
  | commandField =>
    by_cases hlast : s.countdown = 1
    · rw [State.fsmAction, State.commandFieldAction_of_last hlast, Option.getD_none, State.completeCommand_eq]
      cases hdir : s.dir with
      | true =>
        refine .inr ⟨rfl, rfl, hlast, ?_⟩
        rw [State.classify_of_host hdir]
        split <;> rfl
      | false =>
        refine .inl ?_
        rw [State.classify_of_response hdir]
        split <;> exact ⟨rfl, rfl⟩
    · exact .inl (by rw [State.fsmAction, State.commandFieldAction_of_not_last hlast]; exact ⟨rfl, rfl⟩)
  | argumentField =>
    cases hlong : s.respLong with
    | true =>
      refine .inl ?_
      rw [State.fsmAction, if_pos hlong, State.longArgumentAction_eq c s rfl rfl]
      split <;> exact ⟨rfl, rfl⟩
    | false =>
      by_cases hlast : s.countdown = 1
      · exact .inl (by rw [State.fsmAction_argumentField_of_last hlong hlast]; exact ⟨rfl, rfl⟩)
      · exact .inl (by rw [State.fsmAction_argumentField_of_not_last hlong hlast]; exact ⟨rfl, rfl⟩)
  | crc7 =>
    by_cases hlast : s.countdown = 1
    · exact .inl (by rw [State.fsmAction, State.crc7Action_of_last hlast]; exact ⟨rfl, rfl⟩)
    · exact .inl (by rw [State.fsmAction, State.crc7Action_of_not_last hlast]; exact ⟨rfl, rfl⟩)
  | stop => exact .inl (by rw [State.fsmAction, State.stopAction_eq]; exact ⟨rfl, rfl⟩)

theorem State.analyze_host (f : FrameState) (s : State) :
    s.SameHost (s.analyze f none) ∨
      f = .commandField ∧ s.dir = true ∧ s.countdown = 1 ∧ (s.analyze f none).lastHostCmdValid = true := by
  have hcycle := s.fsmCycle_dataOnly f
  rw [State.analyze_eq, State.fsmStep_eq]
  cases h : s.fsmCycle f with
  | signal x u =>
    rw [h] at hcycle
    exact .inl (State.SameHost.trans hcycle.sameHost (u.terminate_sameHost _))
  | ok c u =>
    rw [h] at hcycle
    have hu : s.DataOnly u := hcycle
    have haction := u.fsmAction_host f { c with bit := c.bit }
    simp only [Option.bind_none, Option.map_none, Option.getD_none]
    rcases haction with hsame | ⟨hf, hdir, hcount, hvalid⟩
    · left
      have hsame := hu.sameHost.trans hsame
      generalize u.fsmAction f none { c with bit := c.bit } = r at hsame
      obtain ⟨r, t⟩ := r
      cases r <;> exact hsame
    · right
      rw [hu] at hdir hcount
      refine ⟨hf, hdir, hcount, ?_⟩
      generalize u.fsmAction f none { c with bit := c.bit } = r at hvalid
      obtain ⟨r, t⟩ := r
      cases r <;> exact hvalid

/-- Settles O56: of the operations of a run only the action of CommandField writes the last host command. -/
theorem lastHostCommandIsWrittenByCommandFieldOnly : Obligations.LastHostCommandIsWrittenByCommandFieldOnly := by
  unfold Obligations.LastHostCommandIsWrittenByCommandFieldOnly
  intro s t hpresented hstep hwritten
  have hnot : ¬ s.SameHost t := fun h => hwritten.elim (absurd h.1) (absurd h.2)
  have htaken : s.SameHost s.taken := ⟨rfl, rfl⟩
  rcases step_cases hpresented hstep with ⟨-, rfl⟩ | ⟨-, rfl⟩ | ⟨hphase, rfl⟩ | ⟨-, -, rfl⟩ | ⟨hphase, rfl⟩ | ⟨-, rfl⟩
  · exact absurd (htaken.trans (State.terminate_sameHost _ _)) hnot
  · exact absurd (htaken.trans (State.iterateLocate_sameHost _)) hnot
  · have harb := s.taken.arbitrate_dataOnly
    revert hnot
    unfold State.iterateArbitrate
    cases h : s.taken.arbitrate with
    | signal x u =>
      rw [h] at harb
      exact absurd (htaken.trans (harb.sameHost.trans (u.terminate_sameHost _)))
    | ok a u =>
      rw [h] at harb
      have hu : s.taken.DataOnly u := harb
      cases a with
      | dataPresent =>
        have halign := u.alignData_dataOnly
        simp only [Res.orTerminate_of_ok]
        cases ha : u.alignData with
        | signal x v =>
          rw [ha] at halign
          exact absurd (htaken.trans (hu.sameHost.trans (halign.sameHost.trans (v.terminate_sameHost _))))
        | ok b v =>
          rw [ha] at halign
          have hv : v.SameHost (({ v with phase := .readData } : State).read none) :=
            State.read_sameHost none { v with phase := .readData }
          exact absurd (htaken.trans (hu.sameHost.trans (halign.sameHost.trans hv)))
      | noData =>
        simp only [Res.orTerminate_of_ok]
        split
        · intro hnot
          rcases State.analyze_host u.frameState { u with phase := .analyzeCommand } with hsame | ⟨hf, hdir, hcount, hvalid⟩
          · exact absurd (htaken.trans (hu.sameHost.trans hsame)) hnot
          · rw [hu] at hf hdir hcount
            exact ⟨hf, hdir, hcount, hvalid, .inr hphase⟩
        · exact absurd (htaken.trans (hu.sameHost.trans (u.terminate_sameHost _)))
  · exact absurd (htaken.trans (State.read_sameHost _ _)) hnot
  · rcases State.analyze_host s.frameState s.taken with hsame | ⟨hf, hdir, hcount, hvalid⟩
    · exact absurd (htaken.trans hsame) hnot
    · exact ⟨hf, hdir, hcount, hvalid, .inl hphase⟩
  · exact absurd ⟨rfl, rfl⟩ hnot

end Sys2Proof.Machine
end

section
/-! PROOFS. The Start-Bit Locator (spec/41_start_bit_locator.md): one lemma a pass, and the three things LOCATE can answer, told
apart by the line alone. -/

namespace Sys2Proof.Machine

/-! The transitions ahead of a cursor inside the capture. -/

theorem Cursor.ahead_cons {c : Cursor} {q : Nat} {qs : List Nat} (h : c.ahead = q :: qs) :
    q ∈ c.line.edges ∧ c.pos < q :=
  Cursor.mem_ahead.1 (h ▸ List.mem_cons_self)

/-- In canonical form the transition ahead is the first one: every later one lies beyond it. -/
theorem Cursor.lt_of_ahead_cons {n q g : Nat} {c : Cursor} {qs : List Nat} (hl : c.line.wf n = true)
    (h : c.ahead = q :: qs) (hg : g ∈ c.line.edges) (hpos : c.pos < g) : g = q ∨ q < g := by
  have hsorted : c.ahead.Pairwise (· < ·) := (Line.wf_iff.1 hl).1.filter _
  have hmem : g ∈ c.ahead := Cursor.mem_ahead.2 ⟨hg, hpos⟩
  rw [h] at hmem hsorted
  rcases List.mem_cons.1 hmem with rfl | hlater
  · exact .inl rfl
  · exact .inr (List.rel_of_pairwise_cons hsorted hlater)

theorem Cursor.ahead_placed {n q : Nat} {c : Cursor} {qs : List Nat} (hl : c.line.wf n = true)
    (h : c.ahead = q :: qs) : (Cursor.placed c.line q).ahead = qs := by
  have hsorted : c.ahead.Pairwise (· < ·) := (Line.wf_iff.1 hl).1.filter _
  have hbeyond : (Cursor.placed c.line q).ahead = c.ahead.filter (q < ·) := by
    rw [Cursor.ahead, Cursor.ahead, List.filter_filter]
    refine List.filter_congr fun r _ => ?_
    have hq := (Cursor.ahead_cons h).2
    refine Bool.eq_iff_iff.2 ?_
    rw [Bool.and_eq_true, decide_eq_true_eq, decide_eq_true_eq, decide_eq_true_eq]
    change q < r ↔ q < r ∧ c.pos < r
    omega
  rw [hbeyond, h]
  rw [h, List.pairwise_cons] at hsorted
  simpa using hsorted.1

theorem Line.nextAfter_of_ahead {c : Cursor} {q : Nat} {qs : List Nat} (h : c.ahead = q :: qs) :
    c.line.nextAfter c.pos q = true :=
  Line.nextAfter_iff.2 ⟨qs, h⟩

theorem Line.nextAfter_unique {l : Line} {p q r : Nat} (hq : l.nextAfter p q = true) (hr : l.nextAfter p r = true) :
    q = r := by
  rw [Line.nextAfter, beq_iff_eq] at hq hr
  exact Option.some.inj (hq.symm.trans hr)

/-- The level after the next transition is the other one. -/
theorem Cursor.levelAt_of_ahead {n q : Nat} {c : Cursor} {qs : List Nat} (hc : c.wf n = true) (h : c.ahead = q :: qs) :
    c.line.levelAt q = !c.level := by
  obtain ⟨hl, -, hlevel⟩ := Cursor.wf_iff.1 hc
  exact (Cursor.nextEdge_level_eq_levelAt hl hlevel (Cursor.nextEdge_ok.2 ⟨q, qs, h, rfl⟩)).symm

theorem Cursor.nextEdge_of_ahead {n q : Nat} {c : Cursor} {qs : List Nat} (hc : c.wf n = true) (h : c.ahead = q :: qs) :
    c.nextEdge = .ok (.placed c.line q) ∧ (Cursor.placed c.line q).wf n = true := by
  obtain ⟨hl, -, -⟩ := Cursor.wf_iff.1 hc
  have hnext := Line.nextAfter_of_ahead h
  exact ⟨Cursor.nextEdge_of_nextAfter hc hnext, Cursor.placed_wf hl (Line.nextAfter_bounds hl hnext).2⟩

/-! One pass of R74. -/

theorem State.cmdNextEdge_of_ahead {n q : Nat} {s : State} {qs : List Nat} (hc : s.cmd.wf n = true)
    (h : s.cmd.ahead = q :: qs) : s.cmdNextEdge = .ok () { s with cmd := .placed s.cmd.line q } :=
  State.cmdNextEdge_ok.2 ⟨_, (Cursor.nextEdge_of_ahead hc h).1, rfl⟩

theorem State.locatePasses_of_none {fuel : Nat} {s : State} (h : s.cmd.ahead = []) :
    State.locatePasses (fuel + 1) s = .ok .noCommandActivity { s with cmdStartValid := false } := by
  simp [State.locatePasses, Cursor.hasMore, h]

theorem State.locatePasses_of_low {n q fuel : Nat} {s : State} {qs : List Nat} (hc : s.cmd.wf n = true)
    (h : s.cmd.ahead = q :: qs) (hlow : s.cmd.level = false) :
    State.locatePasses (fuel + 1) s = State.locatePasses fuel { s with cmd := .placed s.cmd.line q } := by
  simp [State.locatePasses, Cursor.hasMore, h, hlow, State.cmdNextEdge_of_ahead hc h]

/-- At level 1 the next transition is a falling edge, and the one after it decides (R74, R76). -/
theorem State.locatePasses_of_high {n q fuel : Nat} {s : State} {qs : List Nat} (hc : s.cmd.wf n = true)
    (h : s.cmd.ahead = q :: qs) (hhigh : s.cmd.level = true) :
    State.locatePasses (fuel + 1) s =
      match qs with
      | [] => .signal .endOfStream { s with cmd := .placed s.cmd.line q }
      | r :: _ =>
        if r - q ≤ 1 then State.locatePasses fuel { s with cmd := .placed s.cmd.line q }
        else .ok .start { s with cmd := .placed s.cmd.line q, cmdStartSample := q, cmdStartValid := true } := by
  obtain ⟨hl, -, -⟩ := Cursor.wf_iff.1 hc
  have hahead := Cursor.ahead_placed hl h
  have hpos : (Cursor.placed s.cmd.line q).pos = q := rfl
  cases qs with
  | nil =>
    simp [State.locatePasses, Cursor.hasMore, h, hhigh, State.cmdNextEdge_of_ahead hc h, State.cmdPeek, Cursor.peek, hahead]
  | cons r rs =>
    simp [State.locatePasses, Cursor.hasMore, h, hhigh, State.cmdNextEdge_of_ahead hc h, State.cmdPeek, Cursor.peek, hahead,
      hpos, Config.MIN_PULSE]

/-! What LOCATE answers. -/

/-- Every low pulse that begins between `p` and `f` is at most one sample wide. -/
def Line.NarrowUpTo (l : Line) (p f : Nat) : Prop := ∀ g h, p < g → g < f → l.pulse g h = true → h - g ≤ 1

/-- Every falling edge after `p` is followed by a rising edge at most one sample later. -/
def Line.OnlyNoise (l : Line) (p : Nat) : Prop :=
  ∀ g ∈ l.edges, p < g → l.levelAt g = false → ∃ h, l.nextAfter g h = true ∧ h - g ≤ 1

/-- The cursor brought to the last transition of its line, if one lies ahead. -/
def Cursor.toLast (c : Cursor) : Cursor :=
  match c.ahead.getLast? with
  | none => c
  | some p => .placed c.line p

/-- The three answers of LOCATE, each with what the line shows. -/
inductive State.LocateAnswer (s : State) : Res Located → Prop where
  | start (f e : Nat) (hf : s.cmd.pos < f) (hpulse : s.cmd.line.pulse f e = true) (hwide : 1 < e - f)
      (hnarrow : s.cmd.line.NarrowUpTo s.cmd.pos f) :
      s.LocateAnswer (.ok .start { s with cmd := .placed s.cmd.line f, cmdStartSample := f, cmdStartValid := true })
  | none (hnoise : s.cmd.line.OnlyNoise s.cmd.pos) :
      s.LocateAnswer (.ok .noCommandActivity { s with cmd := s.cmd.toLast, cmdStartValid := false })
  | endOfStream (f : Nat) (hf : s.cmd.pos < f) (hmem : f ∈ s.cmd.line.edges) (hlow : s.cmd.line.levelAt f = false)
      (hlast : ∀ q ∈ s.cmd.line.edges, q ≤ f) (hnarrow : s.cmd.line.NarrowUpTo s.cmd.pos f) :
      s.LocateAnswer (.signal .endOfStream { s with cmd := .placed s.cmd.line f })

theorem Line.pulse_iff {l : Line} {f e : Nat} :
    l.pulse f e = true ↔ f ∈ l.edges ∧ l.levelAt f = false ∧ l.nextAfter f e = true := by
  simp [Line.pulse, and_assoc]

/-- A transition passed over that begins no wide pulse takes nothing from the answer. -/
theorem State.LocateAnswer.of_passed {n q : Nat} {s : State} {qs : List Nat} {r : Res Located} (hc : s.cmd.wf n = true)
    (h : s.cmd.ahead = q :: qs)
    (hq : s.cmd.line.levelAt q = false → ∃ e, s.cmd.line.nextAfter q e = true ∧ e - q ≤ 1)
    (hr : ({ s with cmd := .placed s.cmd.line q } : State).LocateAnswer r) : s.LocateAnswer r := by
  obtain ⟨hl, -, -⟩ := Cursor.wf_iff.1 hc
  obtain ⟨-, hpos⟩ := Cursor.ahead_cons h
  have hfirst : ∀ g ∈ s.cmd.line.edges, s.cmd.pos < g → g = q ∨ q < g := fun g => Cursor.lt_of_ahead_cons hl h
  have hnarrow : ∀ f, s.cmd.line.NarrowUpTo q f → s.cmd.line.NarrowUpTo s.cmd.pos f := by
    intro f hf g e hg hgf hpulse
    obtain ⟨hmem, hlow, hnext⟩ := Line.pulse_iff.1 hpulse
    rcases hfirst g hmem hg with rfl | hlater
    · obtain ⟨e', hnext', hthin⟩ := hq hlow
      rwa [Line.nextAfter_unique hnext hnext']
    · exact hf g e hlater hgf hpulse
  have htoLast : (Cursor.placed s.cmd.line q).toLast = s.cmd.toLast := by
    rw [Cursor.toLast, Cursor.toLast, Cursor.ahead_placed hl h, h]
    cases qs with
    | nil => rfl
    | cons r rs => rw [List.getLast?_cons_cons, List.getLast?_cons]; rfl
  cases hr with
  | start f e hf hpulse hwide hthin => exact .start f e (hpos.trans hf) hpulse hwide (hnarrow f hthin)
  | none hnoise =>
    simp only [htoLast]
    refine .none fun g hmem hg hlow => ?_
    rcases hfirst g hmem hg with rfl | hlater
    · exact hq hlow
    · exact hnoise g hmem hlater hlow
  | endOfStream f hf hmem hlow hlast hthin => exact .endOfStream f (hpos.trans hf) hmem hlow hlast (hnarrow f hthin)

theorem State.locatePasses_answer {n : Nat} (fuel : Nat) {s : State} (hc : s.cmd.wf n = true)
    (hfuel : s.cmd.ahead.length < fuel) : s.LocateAnswer (State.locatePasses fuel s) := by
  induction fuel generalizing s with
  | zero => omega
  | succ fuel ih =>
    obtain ⟨hl, -, -⟩ := Cursor.wf_iff.1 hc
    cases h : s.cmd.ahead with
    | nil =>
      have hsame : s.cmd.toLast = s.cmd := by rw [Cursor.toLast, h]; rfl
      have hnone := State.LocateAnswer.none (s := s) fun g hg hpos =>
        absurd (Cursor.ahead_eq_nil_iff.1 h g hg) (Nat.not_le.2 hpos)
      rwa [hsame, ← State.locatePasses_of_none h] at hnone
    | cons q qs =>
      have hahead := Cursor.ahead_placed hl h
      have hwf := (Cursor.nextEdge_of_ahead hc h).2
      have hlevel := Cursor.levelAt_of_ahead hc h
      have hrest : ({ s with cmd := .placed s.cmd.line q } : State).LocateAnswer
          (State.locatePasses fuel { s with cmd := .placed s.cmd.line q }) :=
        ih hwf (by simp only [hahead]; simp only [h, List.length_cons] at hfuel; omega)
      cases hs : s.cmd.level with
      | false =>
        rw [State.locatePasses_of_low hc h hs]
        exact .of_passed hc h (by simp [hlevel, hs]) hrest
      | true =>
        rw [hs, Bool.not_true] at hlevel
        obtain ⟨hmem, hpos⟩ := Cursor.ahead_cons h
        have hthin : s.cmd.line.NarrowUpTo s.cmd.pos q := fun g e hg hgq hpulse => by
          have := Cursor.lt_of_ahead_cons hl h (Line.pulse_iff.1 hpulse).1 hg
          omega
        rw [State.locatePasses_of_high hc h hs]
        cases qs with
        | nil => exact .endOfStream q hpos hmem hlevel (Cursor.ahead_eq_nil_iff.1 hahead) hthin
        | cons r rs =>
          have hnext : s.cmd.line.nextAfter q r = true := Line.nextAfter_of_ahead hahead
          simp only
          split
          · next hnarrow => exact .of_passed hc h (fun _ => ⟨r, hnext, hnarrow⟩) hrest
          · next hwide => exact .start q r hpos (Line.pulse_iff.2 ⟨hmem, hlevel, hnext⟩) (by omega) hthin

theorem State.locate_answer {n : Nat} {s : State} (hc : s.cmd.wf n = true) : s.LocateAnswer s.locate :=
  State.locatePasses_answer _ hc (Nat.lt_succ_self _)

/-! The line shows which answer it is. -/

theorem State.locate_of_widePulse {n f e : Nat} {s : State} (hc : s.cmd.wf n = true) (hf : s.cmd.pos < f)
    (hpulse : s.cmd.line.pulse f e = true) (hwide : 1 < e - f) (hnarrow : s.cmd.line.NarrowUpTo s.cmd.pos f) :
    s.locate = .ok .start { s with cmd := .placed s.cmd.line f, cmdStartSample := f, cmdStartValid := true } := by
  obtain ⟨hmem, hlow, hnext⟩ := Line.pulse_iff.1 hpulse
  have hanswer := State.locate_answer hc
  generalize s.locate = answer at hanswer
  cases hanswer with
  | start f' e' hf' hpulse' hwide' hnarrow' =>
    rcases Nat.lt_trichotomy f f' with hlt | rfl | hgt
    · have := hnarrow' f e hf hlt hpulse
      omega
    · rfl
    · have := hnarrow f' e' hf' hgt hpulse'
      omega
  | none hnoise =>
    obtain ⟨h, hnext', hthin⟩ := hnoise f hmem hf hlow
    have := Line.nextAfter_unique hnext hnext'
    omega
  | endOfStream f' hf' hmem' hlow' hlast hnarrow' =>
    obtain ⟨hl, -, -⟩ := Cursor.wf_iff.1 hc
    obtain ⟨qs, hqs⟩ := Line.nextAfter_iff.1 hnext
    obtain ⟨he, hfe⟩ := List.mem_filter.1 (hqs ▸ List.mem_cons_self : e ∈ s.cmd.line.edges.filter (f < ·))
    have hfe : f < e := of_decide_eq_true hfe
    have hef' := hlast e he
    have := hnarrow' f e hf (by omega) hpulse
    omega

theorem State.locate_of_onlyNoise {n : Nat} {s : State} (hc : s.cmd.wf n = true)
    (hnoise : s.cmd.line.OnlyNoise s.cmd.pos) :
    s.locate = .ok .noCommandActivity { s with cmd := s.cmd.toLast, cmdStartValid := false } := by
  have hanswer := State.locate_answer hc
  generalize s.locate = answer at hanswer
  cases hanswer with
  | start f e hf hpulse hwide hnarrow =>
    obtain ⟨hmem, hlow, hnext⟩ := Line.pulse_iff.1 hpulse
    obtain ⟨h, hnext', hthin⟩ := hnoise f hmem hf hlow
    have := Line.nextAfter_unique hnext hnext'
    omega
  | none => rfl
  | endOfStream f hf hmem hlow hlast hnarrow =>
    obtain ⟨h, hnext, hthin⟩ := hnoise f hmem hf hlow
    obtain ⟨qs, hqs⟩ := Line.nextAfter_iff.1 hnext
    obtain ⟨hh, hfh⟩ := List.mem_filter.1 (hqs ▸ List.mem_cons_self : h ∈ s.cmd.line.edges.filter (f < ·))
    exact absurd (hlast h hh) (Nat.not_le.2 (of_decide_eq_true hfh))

theorem State.locate_of_lastFall {n f : Nat} {s : State} (hc : s.cmd.wf n = true) (hf : s.cmd.pos < f)
    (hmem : f ∈ s.cmd.line.edges) (hlow : s.cmd.line.levelAt f = false) (hlast : ∀ q ∈ s.cmd.line.edges, q ≤ f)
    (hnarrow : s.cmd.line.NarrowUpTo s.cmd.pos f) :
    s.locate = .signal .endOfStream { s with cmd := .placed s.cmd.line f } := by
  have hnone : ∀ h, s.cmd.line.nextAfter f h = false := fun h => by
    have hempty : s.cmd.line.edges.filter (f < ·) = [] := by simpa using hlast
    simp [Line.nextAfter, hempty]
  have hanswer := State.locate_answer hc
  generalize s.locate = answer at hanswer
  cases hanswer with
  | start f' e' hf' hpulse hwide hnarrow' =>
    obtain ⟨hmem', -, hnext⟩ := Line.pulse_iff.1 hpulse
    rcases (hlast f' hmem').lt_or_eq with hlt | rfl
    · have := hnarrow f' e' hf' hlt hpulse
      omega
    · simp [hnone e'] at hnext
  | none hnoise =>
    obtain ⟨h, hnext, -⟩ := hnoise f hmem hf hlow
    simp [hnone h] at hnext
  | endOfStream f' hf' hmem' hlow' hlast' hnarrow' =>
    rw [Nat.le_antisymm (hlast f' hmem') (hlast' f hmem)]

/-! The row. -/

theorem exec_locate_of_ok {sss : BitVec 3} {s u : State} {a : Located} (h : s.locate = .ok a u) :
    exec (.locate sss) s = .next { u with phase := .findDataStart } := by
  change Host.Outcome.next s.iterateLocate = _
  rw [State.iterateLocate, h]; rfl

/-- Settles O13: the first wide pulse is what LOCATE answers with. -/
theorem locateAcceptsTheFirstWidePulse : Obligations.LocateAcceptsTheFirstWidePulse := by
  unfold Obligations.LocateAcceptsTheFirstWidePulse
  intro sss s f e hc hf hpulse hwide hnarrow
  exact exec_locate_of_ok (State.locate_of_widePulse hc hf hpulse hwide hnarrow)

/-- Settles O14: with only noise ahead LOCATE passes over every transition. -/
theorem locateFindsNoCommandActivity : Obligations.LocateFindsNoCommandActivity := by
  unfold Obligations.LocateFindsNoCommandActivity
  intro sss s hc hnoise
  refine (exec_locate_of_ok (State.locate_of_onlyNoise hc hnoise)).trans ?_
  unfold Cursor.toLast
  cases s.cmd.ahead.getLast? <;> rfl

/-- Settles O15: the look-ahead at the last falling edge signals, and TERMINATE takes it. -/
theorem locateEndsTheRunInsideALowPulse : Obligations.LocateEndsTheRunInsideALowPulse := by
  unfold Obligations.LocateEndsTheRunInsideALowPulse
  intro sss s f hc hf hmem hlow hlast hnarrow
  change Host.Outcome.next s.iterateLocate = _
  rw [State.iterateLocate, State.locate_of_lastFall hc hf hmem hlow hlast hnarrow, Res.orTerminate_of_signal,
    State.terminate_eq]
  rfl

end Sys2Proof.Machine
end

section
/-! PROOFS. The Data-Presence Arbiter and the alignment (spec/42_data_presence_arbiter.md) in terms of the lines alone: the
two answers of the race, and where the alignment leaves the clock. -/

namespace Sys2Proof.Machine

/-! The clock and the data cursors at one sample. -/

/-- The clock and the active data cursors at sample `q`, each with its line's level there. -/
def State.dataAt (q : Nat) (s : State) : State :=
  { s with clk := .placed s.clk.line q, dat := s.dat.map (fun d => .placed d.line q) }

theorem DataSet.map_map {α β γ : Type} (f : α → β) (g : β → γ) (d : DataSet α) : (d.map f).map g = d.map (g ∘ f) := by
  cases d <;> rfl

theorem DataSet.map_eq_self {f : Cursor → Cursor} {d : DataSet Cursor} (h : ∀ c ∈ d.toList, f c = c) : d.map f = d := by
  cases d <;> simp_all [DataSet.map, DataSet.toList]

theorem State.dataAt_dataAt (p q : Nat) (s : State) : (s.dataAt p).dataAt q = s.dataAt q := by
  simp only [State.dataAt, DataSet.map_map]
  rfl

theorem State.dataAligned_iff {s : State} : s.dataAligned = true ↔ ∀ d ∈ s.dat.toList, d.pos = s.clk.pos := by
  simp [State.dataAligned]

/-- Cursors inside the capture, the data cursors at the clock, stand where `dataAt` puts them. -/
theorem State.dataAt_clk_pos {s : State} (hwf : s.cursorsWf = true) (haligned : s.dataAligned = true) :
    s.dataAt s.clk.pos = s := by
  obtain ⟨-, hclk, -, hdat⟩ := State.cursorsWf_iff.1 hwf
  have hlines : s.dat.map (fun d => Cursor.placed d.line s.clk.pos) = s.dat := DataSet.map_eq_self fun d hd => by
    rw [← State.dataAligned_iff.1 haligned d hd, ← Cursor.eq_placed (Cursor.wf_iff.1 (hdat d hd)).2.2]
  rw [State.dataAt, hlines, ← Cursor.eq_placed (Cursor.wf_iff.1 hclk).2.2]

theorem State.mem_dataAt {s : State} {q : Nat} {c : Cursor} :
    c ∈ (s.dataAt q).dat.toList ↔ ∃ d ∈ s.dat.toList, .placed d.line q = c := by
  simp [State.dataAt]

theorem State.dataAt_cursorsWf {s : State} {q : Nat} (hwf : s.cursorsWf = true) (hq : q < s.nSamples) :
    (s.dataAt q).cursorsWf = true := by
  obtain ⟨hn, hclk, hcmd, hdat⟩ := State.cursorsWf_iff.1 hwf
  refine State.cursorsWf_iff.2 ⟨hn, Cursor.placed_wf (Cursor.wf_iff.1 hclk).1 hq, hcmd, fun c hc => ?_⟩
  obtain ⟨d, hd, rfl⟩ := State.mem_dataAt.1 hc
  exact Cursor.placed_wf (Cursor.wf_iff.1 (hdat d hd)).1 hq

theorem State.dataAt_dataAligned (q : Nat) (s : State) : (s.dataAt q).dataAligned = true :=
  State.dataAligned_iff.2 fun c hc => by
    obtain ⟨d, -, rfl⟩ := State.mem_dataAt.1 hc
    rfl

theorem State.clkTo_of_wf {s : State} {q : Nat} (hclk : s.clk.wf s.nSamples = true) (hpos : s.clk.pos ≤ q)
    (hq : q < s.nSamples) : s.clkTo q = .ok () { s with clk := .placed s.clk.line q } :=
  State.clkTo_ok.2 ⟨_, Cursor.toAbs_of_wf hclk hpos hq, rfl⟩

theorem State.datTo_of_wf {s : State} {q : Nat} (hdat : ∀ d ∈ s.dat.toList, d.wf s.nSamples = true)
    (hpos : ∀ d ∈ s.dat.toList, d.pos ≤ q) (hq : q < s.nSamples) :
    s.datTo q = .ok () { s with dat := s.dat.map (fun d => .placed d.line q) } :=
  State.datTo_ok.2 ⟨_, DataSet.each_of_forall_ok fun d hd => Cursor.toAbs_of_wf (hdat d hd) (hpos d hd) hq, rfl⟩

/-- Moving the clock and then the data cursors forward to one sample. -/
theorem State.clkTo_datTo {s : State} {q : Nat} (hwf : s.cursorsWf = true) (haligned : s.dataAligned = true)
    (hpos : s.clk.pos ≤ q) (hq : q < s.nSamples) {α : Type} (f : State → Res α) :
    ((s.clkTo q).andThen fun _ u => (u.datTo q).andThen fun _ v => f v) = f (s.dataAt q) := by
  obtain ⟨-, hclk, -, hdat⟩ := State.cursorsWf_iff.1 hwf
  have hmoved : ({ s with clk := .placed s.clk.line q } : State).datTo q = .ok () (s.dataAt q) :=
    State.datTo_of_wf hdat (fun d hd => (State.dataAligned_iff.1 haligned d hd).trans_le hpos) hq
  rw [State.clkTo_of_wf hclk hpos hq, Res.andThen_of_ok, hmoved, Res.andThen_of_ok]

/-! The race (R80). -/

/-- A transition of a data line counts if it is not beyond the command start (R79). -/
def State.inBound (s : State) (q : Nat) : Prop := s.cmdStartValid = true → q ≤ s.cmdStartSample

theorem State.mem_candidates {s : State} {x : Nat × Bool} :
    x ∈ s.candidates ↔ ∃ d ∈ s.dat.toList, (∃ qs, d.ahead = x.1 :: qs) ∧ s.inBound x.1 ∧ d.level = x.2 := by
  have hcontributes : ∀ d : Cursor, s.candidate d = some x ↔ (∃ qs, d.ahead = x.1 :: qs) ∧ s.inBound x.1 ∧ d.level = x.2 := by
    intro d
    obtain ⟨q, b⟩ := x
    unfold State.candidate State.contributes State.inBound Cursor.wouldCross Cursor.hasMore
    cases d.ahead with
    | nil => simp
    | cons r rs =>
      cases s.cmdStartValid with
      | false => simp
      | true =>
        by_cases hr : r ≤ s.cmdStartSample
        · simp only [hr, if_true, decide_true, List.head?_cons, Option.map_some, Option.some.injEq, Prod.mk.injEq,
            List.cons.injEq, exists_and_left, exists_eq', and_true, forall_const]
          constructor
          · rintro ⟨rfl, rfl⟩; exact ⟨rfl, hr, rfl⟩
          · rintro ⟨rfl, -, rfl⟩; exact ⟨rfl, rfl⟩
        · simp only [hr, if_true, decide_false, Bool.false_eq_true, if_false, reduceCtorEq, List.cons.injEq,
            exists_and_left, exists_eq', and_true, forall_const, false_iff]
          rintro ⟨rfl, hq, -⟩
          exact hr hq
  simp [State.candidates, hcontributes]

/-- Every transition of a data line within the bound lies at or beyond a candidate. -/
theorem State.candidate_le {s : State} (hwf : s.cursorsWf = true) (haligned : s.dataAligned = true) {d : Cursor} {q : Nat}
    (hd : d ∈ s.dat.toList) (hq : q ∈ d.line.edges) (hpos : s.clk.pos < q) (hbound : s.inBound q) :
    ∃ r, (r, d.level) ∈ s.candidates ∧ (r = q ∨ r < q) := by
  obtain ⟨-, -, -, hdat⟩ := State.cursorsWf_iff.1 hwf
  have hdpos := State.dataAligned_iff.1 haligned d hd
  cases h : d.ahead with
  | nil =>
    have := Cursor.ahead_eq_nil_iff.1 h q hq
    omega
  | cons r rs =>
    have hr := Cursor.lt_of_ahead_cons (Cursor.wf_iff.1 (hdat d hd)).1 h hq (by omega)
    have hle : r ≤ q := by omega
    exact ⟨r, State.mem_candidates.2 ⟨d, hd, ⟨rs, h⟩, fun hv => hle.trans (hbound hv), rfl⟩, by omega⟩

theorem State.firstDataFall_iff {s : State} {p : Nat} :
    s.firstDataFall p = true ↔
      s.clk.pos < p ∧ (∃ d ∈ s.dat.toList, p ∈ d.line.edges ∧ d.line.levelAt p = false) ∧
        ∀ d ∈ s.dat.toList, ∀ q ∈ d.line.edges, s.clk.pos < q → q < p → d.line.levelAt q = true := by
  simp only [State.firstDataFall, Bool.and_eq_true, decide_eq_true_eq, List.any_eq_true, List.all_eq_true,
    List.contains_iff_mem, Bool.not_eq_true', Bool.or_eq_true, Bool.and_eq_false_iff, decide_eq_false_iff_not, and_assoc]
  refine and_congr_right fun _ => and_congr_right fun _ => ?_
  refine forall_congr' fun d => forall_congr' fun _ => forall_congr' fun q => forall_congr' fun _ => ?_
  tauto

theorem State.noDataFall_iff {s : State} :
    s.noDataFall = true ↔
      ∀ d ∈ s.dat.toList, ∀ q ∈ d.line.edges, s.clk.pos < q → s.inBound q → d.line.levelAt q = true := by
  simp only [State.noDataFall, State.inBound, List.all_eq_true, Bool.not_eq_true',
    Bool.or_eq_true, Bool.and_eq_false_iff, Bool.or_eq_false_iff, decide_eq_false_iff_not, Bool.not_eq_false']
  refine forall_congr' fun d => forall_congr' fun _ => forall_congr' fun q => forall_congr' fun _ => ?_
  tauto

/-- A transition of a data line that the arbiter passes over when it finds no data start (R80, R84). -/
def State.Passes (s : State) (q : Nat) : Prop :=
  (∃ d ∈ s.dat.toList, q ∈ d.line.edges) ∧ s.clk.pos < q ∧ (s.cmdStartValid = true → q < s.cmdStartSample)

theorem foldl_max_eq_iff {l : List Nat} {p c : Nat} :
    l.foldl max p = c ↔ (c = p ∨ c ∈ l) ∧ p ≤ c ∧ ∀ q ∈ l, q ≤ c := by
  have hmax : (p :: l).max? = some (l.foldl max p) := by rw [List.max?_cons']
  rw [← Option.some_inj, ← hmax, List.max?_eq_some_iff]
  simp

theorem State.lastPassed_eq_iff {s : State} {c : Nat} :
    s.lastPassed = c ↔ (c = s.clk.pos ∨ s.Passes c) ∧ s.clk.pos ≤ c ∧ ∀ q, s.Passes q → q ≤ c := by
  have hmem : ∀ q, q ∈ (s.dat.toList.flatMap (fun d => d.line.edges.filter (fun q =>
      decide (s.clk.pos < q) && (!s.cmdStartValid || decide (q < s.cmdStartSample))))) ↔ s.Passes q := by
    intro q
    simp only [List.mem_flatMap, List.mem_filter, Bool.and_eq_true, decide_eq_true_eq, Bool.or_eq_true,
      Bool.not_eq_true', State.Passes]
    constructor
    · rintro ⟨d, hd, hq, hpos, hbound⟩
      exact ⟨⟨d, hd, hq⟩, hpos, fun hv => hbound.resolve_left (by simp [hv])⟩
    · rintro ⟨⟨d, hd, hq⟩, hpos, hbound⟩
      refine ⟨d, hd, hq, hpos, ?_⟩
      cases hv : s.cmdStartValid with
      | false => exact .inl rfl
      | true => exact .inr (hbound hv)
  rw [State.lastPassed, foldl_max_eq_iff]
  simp only [hmem]

/-- The two answers of ARBITRATE, each with what the lines show. -/
inductive State.ArbitrateAnswer (s : State) : Res Arbitration → Prop where
  | dataPresent (p q : Nat) (hfall : s.firstDataFall p = true) (hbound : s.inBound p) (hpos : s.clk.pos ≤ q)
      (hq : q ≤ p) : s.ArbitrateAnswer (.ok .dataPresent { s.dataAt q with dataStartSample := p })
  | noData (hnone : s.noDataFall = true) : s.ArbitrateAnswer (.ok .noData (s.dataAt s.lastPassed))

/-- What a pass knows of the minimum `mn` of its candidates when none of them falls there: the lines rise at `mn`, and no
transition within the bound lies before it. -/
structure State.PassesOver (s : State) (mn : Nat) : Prop where
  pos_lt : s.clk.pos < mn
  inBound : s.inBound mn
  minimal : ∀ d ∈ s.dat.toList, ∀ q ∈ d.line.edges, s.clk.pos < q → s.inBound q → mn ≤ q
  attained : ∃ d ∈ s.dat.toList, ∃ qs, d.ahead = mn :: qs
  rises : ∀ d ∈ s.dat.toList, mn ∈ d.line.edges → d.line.levelAt mn = true

/-- The answer from beyond the minimum is the answer from before it. -/
theorem State.ArbitrateAnswer.of_passed {s : State} {mn : Nat} {r : Res Arbitration} (hpass : s.PassesOver mn)
    (hbefore : s.cmdStartValid = true → mn < s.cmdStartSample) (hr : (s.dataAt mn).ArbitrateAnswer r) :
    s.ArbitrateAnswer r := by
  have hedge : ∀ d ∈ s.dat.toList, ∀ q ∈ d.line.edges, s.clk.pos < q → s.inBound q →
      q = mn ∧ d.line.levelAt q = true ∨ mn < q := by
    intro d hd q hq hpos hbound
    rcases (hpass.minimal d hd q hq hpos hbound).eq_or_lt with rfl | hlt
    · exact .inl ⟨rfl, hpass.rises d hd hq⟩
    · exact .inr hlt
  have hline : ∀ d ∈ s.dat.toList, Cursor.placed d.line mn ∈ (s.dataAt mn).dat.toList := fun d hd =>
    State.mem_dataAt.2 ⟨d, hd, rfl⟩
  cases hr with
  | dataPresent p q hfall hbound hpos hq =>
    rw [State.dataAt_dataAt]
    have hmnq : mn ≤ q := hpos
    refine .dataPresent p q ?_ hbound (hpass.pos_lt.le.trans hmnq) hq
    obtain ⟨hp, ⟨c, hc, hmem, hlow⟩, hbetween⟩ := State.firstDataFall_iff.1 hfall
    obtain ⟨d, hd, rfl⟩ := State.mem_dataAt.1 hc
    refine State.firstDataFall_iff.2 ⟨hpass.pos_lt.trans hp, ⟨d, hd, hmem, hlow⟩, fun d hd r hr hpr hrp => ?_⟩
    rcases hedge d hd r hr hpr (fun hv => hrp.le.trans (hbound hv)) with ⟨-, hrise⟩ | hlater
    · exact hrise
    · exact hbetween _ (hline d hd) r hr hlater hrp
  | noData hnone =>
    have hlast : s.lastPassed = (s.dataAt mn).lastPassed := by
      obtain ⟨hattained, hpos, hmax⟩ := State.lastPassed_eq_iff.1 (rfl : (s.dataAt mn).lastPassed = _)
      have hmn : mn ≤ (s.dataAt mn).lastPassed := hpos
      obtain ⟨d0, hd0, qs, hqs⟩ := hpass.attained
      have hmnPasses : s.Passes mn := ⟨⟨d0, hd0, (Cursor.ahead_cons hqs).1⟩, hpass.pos_lt, hbefore⟩
      have hsub : ∀ q, (s.dataAt mn).Passes q → s.Passes q := by
        rintro q ⟨⟨c, hc, hq⟩, hlt, hb⟩
        obtain ⟨d, hd, rfl⟩ := State.mem_dataAt.1 hc
        exact ⟨⟨d, hd, hq⟩, hpass.pos_lt.trans hlt, hb⟩
      refine State.lastPassed_eq_iff.2 ⟨.inr ?_, hpass.pos_lt.le.trans hmn, fun q hq => ?_⟩
      · rcases hattained with hstay | hmoved
        · rw [hstay]; exact hmnPasses
        · exact hsub _ hmoved
      · obtain ⟨⟨d, hd, hmem⟩, hlt, hb⟩ := hq
        rcases hedge d hd q hmem hlt (fun hv => (hb hv).le) with ⟨rfl, -⟩ | hlater
        · exact hmn
        · exact hmax q ⟨⟨_, hline d hd, hmem⟩, hlater, hb⟩
    rw [State.dataAt_dataAt, ← hlast]
    refine .noData (State.noDataFall_iff.2 fun d hd q hq hpos hb => ?_)
    rcases hedge d hd q hq hpos hb with ⟨-, hrise⟩ | hlater
    · exact hrise
    · exact State.noDataFall_iff.1 hnone _ (hline d hd) q hq hlater hb

/-- The transitions ahead on all data lines, which bound the number of passes (R80). -/
def State.dataAhead (s : State) : Nat := (s.dat.toList.map (·.ahead.length)).sum

theorem State.dataAhead_dataAt_lt {s : State} {mn : Nat} (hwf : s.cursorsWf = true) (haligned : s.dataAligned = true)
    (hpass : s.PassesOver mn) : (s.dataAt mn).dataAhead < s.dataAhead := by
  obtain ⟨-, -, -, hdat⟩ := State.cursorsWf_iff.1 hwf
  have hmap : (s.dataAt mn).dataAhead = (s.dat.toList.map (fun d => (Cursor.placed d.line mn).ahead.length)).sum := by
    simp [State.dataAhead, State.dataAt, Function.comp_def]
  rw [hmap]
  refine List.sum_lt_sum _ _ (fun d hd => ?_) ?_
  · rw [Cursor.ahead, Cursor.ahead, ← List.countP_eq_length_filter, ← List.countP_eq_length_filter]
    have hpos := State.dataAligned_iff.1 haligned d hd
    have hlt := hpass.pos_lt
    refine List.countP_mono_left fun q _ hq => ?_
    have hq : mn < q := of_decide_eq_true hq
    exact decide_eq_true (show d.pos < q by omega)
  · obtain ⟨d, hd, qs, hqs⟩ := hpass.attained
    refine ⟨d, hd, ?_⟩
    rw [Cursor.ahead_placed (Cursor.wf_iff.1 (hdat d hd)).1 hqs, hqs, List.length_cons]
    exact Nat.lt_succ_self _

theorem State.arbitratePasses_answer (fuel : Nat) {s : State} (hwf : s.cursorsWf = true) (haligned : s.dataAligned = true)
    (hfuel : s.dataAhead < fuel) : s.ArbitrateAnswer (State.arbitratePasses fuel s) := by
  induction fuel generalizing s with
  | zero => omega
  | succ fuel ih =>
    obtain ⟨-, -, -, hdat⟩ := State.cursorsWf_iff.1 hwf
    have hhere := State.dataAt_clk_pos hwf haligned
    cases hcands : s.candidates with
    | nil =>
      have hnone : ∀ d ∈ s.dat.toList, ∀ q ∈ d.line.edges, s.clk.pos < q → ¬ s.inBound q := by
        intro d hd q hq hpos hb
        obtain ⟨r, hr, -⟩ := State.candidate_le hwf haligned hd hq hpos hb
        rw [hcands] at hr
        exact List.not_mem_nil hr
      have hlast : s.lastPassed = s.clk.pos := by
        refine State.lastPassed_eq_iff.2 ⟨.inl rfl, le_rfl, fun q hq => ?_⟩
        obtain ⟨⟨d, hd, hmem⟩, hlt, hb⟩ := hq
        exact absurd (fun hv => (hb hv).le) (hnone d hd q hmem hlt)
      have hanswer := State.ArbitrateAnswer.noData (s := s)
        (State.noDataFall_iff.2 fun d hd q hq hpos hb => absurd hb (hnone d hd q hq hpos))
      rw [hlast, hhere] at hanswer
      rwa [State.arbitratePasses, hcands]
    | cons c cs =>
      obtain ⟨⟨x, hx, hxmin⟩, hmin⟩ := earliest_eq_iff.1 (rfl : earliest c cs = earliest c cs)
      generalize hmn : earliest c cs = mn at hxmin hmin
      rw [← hcands] at hx hmin
      obtain ⟨d0, hd0, ⟨qs0, hqs0⟩, hbound, -⟩ := State.mem_candidates.1 hx
      rw [hxmin] at hqs0 hbound
      have hpos : s.clk.pos < mn := by
        rw [← State.dataAligned_iff.1 haligned d0 hd0]
        exact (Cursor.ahead_cons hqs0).2
      have hminimal : ∀ d ∈ s.dat.toList, ∀ q ∈ d.line.edges, s.clk.pos < q → s.inBound q → mn ≤ q := by
        intro d hd q hq hpos hb
        obtain ⟨r, hr, hrq⟩ := State.candidate_le hwf haligned hd hq hpos hb
        have : mn ≤ r := hmin _ hr
        omega
      by_cases hhigh : (mn, true) ∈ s.candidates
      · rw [State.arbitratePasses_of_high_at_minimum fuel hhigh hmin]
        obtain ⟨d, hd, ⟨qs, hqs⟩, -, hlevel⟩ := State.mem_candidates.1 hhigh
        have hfall : s.firstDataFall mn = true := by
          refine State.firstDataFall_iff.2 ⟨hpos, ⟨d, hd, (Cursor.ahead_cons hqs).1, ?_⟩, fun e he q hq hlt hlater => ?_⟩
          · rw [Cursor.levelAt_of_ahead (hdat d hd) hqs, hlevel]; rfl
          · have := hminimal e he q hq hlt (fun hv => hlater.le.trans (hbound hv))
            omega
        have hanswer := State.ArbitrateAnswer.dataPresent mn s.clk.pos hfall hbound le_rfl hpos.le
        rwa [hhere] at hanswer
      · have hrises : ∀ d ∈ s.dat.toList, mn ∈ d.line.edges → d.line.levelAt mn = true := by
          intro d hd hmem
          obtain ⟨r, hr, hrmn⟩ := State.candidate_le hwf haligned hd hmem hpos hbound
          have hrmn : r = mn := by
            have : mn ≤ r := hmin _ hr
            omega
          rw [hrmn] at hr
          obtain ⟨e, he, ⟨qs, hqs⟩, -, -⟩ := State.mem_candidates.1 hr
          have hlow : d.level = false := by
            cases hl : d.level with
            | false => rfl
            | true => exact absurd (hl ▸ hr) hhigh
          cases h : d.ahead with
          | nil =>
            have := Cursor.ahead_eq_nil_iff.1 h _ hmem
            rw [State.dataAligned_iff.1 haligned d hd] at this
            omega
          | cons q qs' =>
            have hdpos := State.dataAligned_iff.1 haligned d hd
            have hq := Cursor.lt_of_ahead_cons (Cursor.wf_iff.1 (hdat d hd)).1 h hmem (by omega)
            have hqpos := (Cursor.ahead_cons h).2
            have := hminimal d hd q (Cursor.ahead_cons h).1 (by omega) (fun hv => by have := hbound hv; omega)
            have hqmn : q = mn := by omega
            rw [← hqmn, Cursor.levelAt_of_ahead (hdat d hd) h, hlow]; rfl
        have hpass : s.PassesOver mn := ⟨hpos, hbound, hminimal, ⟨d0, hd0, qs0, hqs0⟩, hrises⟩
        have hdeclares : declaresStart mn (c :: cs) = false := by
          rw [← hcands, Bool.eq_false_iff, Ne, declaresStart_iff]
          exact hhigh
        simp only [State.arbitratePasses, hcands, hmn, hdeclares, Bool.false_eq_true, if_false]
        split
        · next hstart =>
          obtain ⟨hvalid, hmnstart⟩ : s.cmdStartValid = true ∧ mn = s.cmdStartSample := by simpa using hstart
          have hlast : s.lastPassed = s.clk.pos := by
            refine State.lastPassed_eq_iff.2 ⟨.inl rfl, le_rfl, fun q hq => ?_⟩
            obtain ⟨⟨d, hd, hmem⟩, hlt, hb⟩ := hq
            have := hminimal d hd q hmem hlt (fun hv => (hb hv).le)
            have := hb hvalid
            omega
          have hanswer := State.ArbitrateAnswer.noData (s := s) (State.noDataFall_iff.2 fun d hd q hq hlt hb => by
            have hge := hminimal d hd q hq hlt hb
            have hle := hb hvalid
            obtain rfl : q = mn := by omega
            exact hrises d hd hq)
          rwa [hlast, hhere] at hanswer
        · next hstart =>
          have hbefore : s.cmdStartValid = true → mn < s.cmdStartSample := fun hv => by
            have hne : mn ≠ s.cmdStartSample := fun h => hstart (by simp [hv, h])
            have := hbound hv
            omega
          have hmnlt : mn < s.nSamples :=
            ((Line.wf_iff.1 (Cursor.wf_iff.1 (hdat d0 hd0)).1).2 mn (Cursor.ahead_cons hqs0).1).2
          rw [State.clkTo_datTo hwf haligned hpos.le hmnlt]
          refine .of_passed hpass hbefore (ih (State.dataAt_cursorsWf hwf hmnlt) (State.dataAt_dataAligned _ _) ?_)
          have := State.dataAhead_dataAt_lt hwf haligned hpass
          omega

theorem State.arbitrate_answer {s : State} (hwf : s.cursorsWf = true) (haligned : s.dataAligned = true) :
    s.ArbitrateAnswer s.arbitrate :=
  State.arbitratePasses_answer _ hwf haligned (Nat.lt_succ_self _)

end Sys2Proof.Machine
end

section
/-! PROOFS. ARBITRATE as a row (spec/42_data_presence_arbiter.md, spec/45_decode_driver.md section 2): which answer the lines
give, the alignment after a data start, and the two statements of the row. -/

namespace Sys2Proof.Machine

/-! The lines show which answer it is. -/

theorem State.firstDataFall_unique {s : State} {p q : Nat} (hp : s.firstDataFall p = true) (hq : s.firstDataFall q = true) :
    p = q := by
  obtain ⟨hpos, ⟨d, hd, hmem, hlow⟩, hbetween⟩ := State.firstDataFall_iff.1 hp
  obtain ⟨hpos', ⟨d', hd', hmem', hlow'⟩, hbetween'⟩ := State.firstDataFall_iff.1 hq
  rcases Nat.lt_trichotomy p q with hlt | heq | hgt
  · rw [hbetween' d hd p hmem hpos hlt] at hlow
    cases hlow
  · exact heq
  · rw [hbetween d' hd' q hmem' hpos' hgt] at hlow'
    cases hlow'

theorem State.noDataFall_of_firstDataFall {s : State} {p : Nat} (hp : s.firstDataFall p = true) (hbound : s.inBound p) :
    s.noDataFall = false := by
  obtain ⟨hpos, ⟨d, hd, hmem, hlow⟩, -⟩ := State.firstDataFall_iff.1 hp
  rw [Bool.eq_false_iff]
  intro hnone
  rw [State.noDataFall_iff.1 hnone d hd p hmem hpos hbound] at hlow
  cases hlow

theorem State.arbitrate_of_firstDataFall {s : State} {p : Nat} (hwf : s.cursorsWf = true) (haligned : s.dataAligned = true)
    (hfall : s.firstDataFall p = true) (hbound : s.inBound p) :
    ∃ q, s.clk.pos ≤ q ∧ q ≤ p ∧ s.arbitrate = .ok .dataPresent { s.dataAt q with dataStartSample := p } := by
  have hanswer := State.arbitrate_answer hwf haligned
  generalize s.arbitrate = answer at hanswer
  cases hanswer with
  | dataPresent p' q hfall' _ hpos hq =>
    obtain rfl := State.firstDataFall_unique hfall hfall'
    exact ⟨q, hpos, hq, rfl⟩
  | noData hnone =>
    rw [State.noDataFall_of_firstDataFall hfall hbound] at hnone
    cases hnone

theorem State.arbitrate_of_noDataFall {s : State} (hwf : s.cursorsWf = true) (haligned : s.dataAligned = true)
    (hnone : s.noDataFall = true) : s.arbitrate = .ok .noData (s.dataAt s.lastPassed) := by
  have hanswer := State.arbitrate_answer hwf haligned
  generalize s.arbitrate = answer at hanswer
  cases hanswer with
  | dataPresent p q hfall hbound =>
    rw [State.noDataFall_of_firstDataFall hfall hbound] at hnone
    cases hnone
  | noData => rfl

/-- What the arbiter passes over lies ahead, and before the command start. -/
theorem State.lastPassed_bounds (s : State) :
    s.clk.pos ≤ s.lastPassed ∧ (s.cmdStartValid = true → s.lastPassed ≤ max s.clk.pos s.cmdStartSample) := by
  obtain ⟨hattained, hpos, -⟩ := State.lastPassed_eq_iff.1 (rfl : s.lastPassed = _)
  refine ⟨hpos, fun hvalid => ?_⟩
  rcases hattained with hstay | ⟨-, -, hbefore⟩
  · omega
  · have := hbefore hvalid
    omega

theorem State.lastPassed_lt {s : State} (hwf : s.cursorsWf = true) : s.lastPassed < s.nSamples := by
  obtain ⟨-, hclk, -, hdat⟩ := State.cursorsWf_iff.1 hwf
  obtain ⟨hattained, -, -⟩ := State.lastPassed_eq_iff.1 (rfl : s.lastPassed = _)
  rcases hattained with hstay | ⟨⟨d, hd, hmem⟩, -, -⟩
  · rw [hstay]
    exact (Cursor.wf_iff.1 hclk).2.1
  · exact ((Line.wf_iff.1 (Cursor.wf_iff.1 (hdat d hd)).1).2 _ hmem).2

/-! The alignment of the clock (R82). -/

theorem State.firstDataFall_lt {s : State} {p : Nat} (hwf : s.cursorsWf = true) (hfall : s.firstDataFall p = true) :
    p < s.nSamples := by
  obtain ⟨-, -, -, hdat⟩ := State.cursorsWf_iff.1 hwf
  obtain ⟨-, ⟨d, hd, hmem, -⟩, -⟩ := State.firstDataFall_iff.1 hfall
  exact ((Line.wf_iff.1 (Cursor.wf_iff.1 (hdat d hd)).1).2 p hmem).2

theorem State.clkNextEdge_of_ahead {n q : Nat} {s : State} {qs : List Nat} (hc : s.clk.wf n = true)
    (h : s.clk.ahead = q :: qs) : s.clkNextEdge = .ok () { s with clk := .placed s.clk.line q } :=
  State.clkNextEdge_ok.2 ⟨_, (Cursor.nextEdge_of_ahead hc h).1, rfl⟩

theorem State.clkNextEdge_of_none {s : State} (h : s.clk.ahead = []) : s.clkNextEdge = .signal .endOfStream s :=
  State.clkNextEdge_signal.2 ⟨Cursor.nextEdge_error.2 ⟨h, rfl⟩, rfl⟩

/-- The clock has the edges of the alignment, or it has not. -/
theorem State.alignedAt_or_unalignable (s : State) (p : Nat) : (∃ c, s.alignedAt p c = true) ∨ s.unalignable p = true := by
  unfold State.alignedAt State.unalignable
  cases s.clk.line.edges.filter (p < ·) with
  | nil => exact .inr rfl
  | cons e1 es =>
    cases es with
    | nil => exact .inr rfl
    | cons e2 rest =>
      by_cases hlevel : s.clk.line.levelAt e2 = s.sampleLevel
      · exact .inl ⟨e2, by simp [hlevel]⟩
      · cases rest with
        | nil => exact .inr (by simpa using hlevel)
        | cons e3 rest => exact .inl ⟨e3, by simp [hlevel]⟩

/-- The alignment of the clock from the data start `p`, where the clock has its edges. -/
theorem State.alignClock_of_alignedAt {s : State} {c : Nat} (hclk : s.clk.wf s.nSamples = true)
    (h : s.alignedAt s.clk.pos c = true) :
    s.alignClock = .ok () { s with clk := .placed s.clk.line c } ∧ s.clk.pos < c ∧ c < s.nSamples ∧
      c ∈ s.clk.line.edges ∧ s.clk.line.levelAt c = s.sampleLevel := by
  obtain ⟨hl, -, -⟩ := Cursor.wf_iff.1 hclk
  unfold State.alignedAt at h
  split at h
  case h_2 => cases h
  case h_3 => cases h
  next e1 e2 rest hedges =>
    have h1 : s.clk.ahead = e1 :: e2 :: rest := hedges
    obtain ⟨hnext1, hwf1⟩ := Cursor.nextEdge_of_ahead hclk h1
    have h2 := Cursor.ahead_placed hl h1
    obtain ⟨hnext2, hwf2⟩ := Cursor.nextEdge_of_ahead hwf1 h2
    obtain ⟨-, hpos1⟩ := Cursor.ahead_cons h1
    obtain ⟨hmem2, hpos2⟩ := Cursor.ahead_cons h2
    have hpos2 : e1 < e2 := hpos2
    split at h
    · next hlevel =>
      obtain rfl : c = e2 := by simpa using h
      exact ⟨State.alignClock_ok.2 ⟨_, _, _, hnext1, hnext2, (if_pos (c := _ = _) hlevel).mpr rfl, rfl⟩, by omega,
        (Cursor.wf_iff.1 hwf2).2.1, hmem2, hlevel⟩
    · next hlevel =>
      have h3 := Cursor.ahead_placed (c := .placed s.clk.line e1) hl h2
      cases rest with
      | nil => simp at h
      | cons e3 rest =>
        obtain rfl : e3 = c := by simpa using h
        obtain ⟨hnext3, hwf3⟩ := Cursor.nextEdge_of_ahead hwf2 h3
        obtain ⟨hmem3, hpos3⟩ := Cursor.ahead_cons h3
        have hpos3 : e2 < e3 := hpos3
        have hlevel3 : s.clk.line.levelAt e3 = !s.clk.line.levelAt e2 := Cursor.levelAt_of_ahead hwf2 h3
        refine ⟨State.alignClock_ok.2 ⟨_, _, _, hnext1, hnext2, (if_neg (c := _ = _) hlevel).mpr hnext3, rfl⟩, by omega,
          (Cursor.wf_iff.1 hwf3).2.1, hmem3, ?_⟩
        exact hlevel3.trans (Bool.not_eq.2 hlevel)

/-- The last transition of a line, where the ones beyond `p` are known. -/
theorem Line.max_lastEdge {n p : Nat} {l : Line} (hl : l.wf n = true) :
    max p l.lastEdge = (l.edges.filter (p < ·)).getLast?.getD p := by
  obtain ⟨hsorted, -⟩ := Line.wf_iff.1 hl
  have hsplit := filter_le_append_filter_lt hsorted p
  rw [Line.lastEdge]
  cases h : (l.edges.filter (p < ·)).getLast? with
  | none =>
    have hnone : l.edges.filter (p < ·) = [] := List.getLast?_eq_none_iff.1 h
    have hle : ∀ q ∈ l.edges, q ≤ p := by simpa using hnone
    cases hlast : l.edges.getLast? with
    | none => simp
    | some q => simpa using hle q (List.mem_of_getLast? hlast)
  | some q =>
    have hlast : l.edges.getLast? = some q := by rw [← hsplit, List.getLast?_append, h]; rfl
    have hq : p < q := by simpa using (List.mem_filter.1 (List.mem_of_getLast? h)).2
    rw [hlast, Option.getD_some, Option.getD_some, max_eq_right hq.le]

/-- The alignment of the clock where it runs out of edges: it stays on its last one (R82, R138). -/
theorem State.alignClock_of_unalignable {s : State} (hclk : s.clk.wf s.nSamples = true)
    (h : s.unalignable s.clk.pos = true) :
    s.alignClock = .signal .endOfStream { s with clk := .placed s.clk.line (max s.clk.pos s.clk.line.lastEdge) } := by
  obtain ⟨hl, -, hlevel⟩ := Cursor.wf_iff.1 hclk
  have hlast : max s.clk.pos s.clk.line.lastEdge = s.clk.ahead.getLast?.getD s.clk.pos := Line.max_lastEdge hl
  have hstart : s.alignClock =
      s.clkNextEdge.andThen fun _ u => u.clkNextEdge.andThen fun _ v => v.fixSamplingEdge := rfl
  rw [hstart, hlast]
  unfold State.unalignable at h
  split at h
  · next e1 e2 rest hedges =>
    obtain ⟨rfl, hne⟩ : rest = [] ∧ s.clk.line.levelAt e2 ≠ s.sampleLevel := by simpa using h
    have h1 : s.clk.ahead = [e1, e2] := hedges
    have hwf1 := (Cursor.nextEdge_of_ahead hclk h1).2
    have h2 := Cursor.ahead_placed hl h1
    have h3 := Cursor.ahead_placed (c := .placed s.clk.line e1) hl h2
    have hsecond : ({ s with clk := .placed s.clk.line e1 } : State).clkNextEdge =
        .ok () { s with clk := .placed s.clk.line e2 } := State.clkNextEdge_of_ahead hwf1 h2
    have hthird : ({ s with clk := .placed s.clk.line e2 } : State).fixSamplingEdge =
        .signal .endOfStream { s with clk := .placed s.clk.line e2 } :=
      (if_neg (c := _ = _) hne).trans (State.clkNextEdge_of_none h3)
    rw [State.clkNextEdge_of_ahead hclk h1, Res.andThen_of_ok, hsecond, Res.andThen_of_ok, hthird, h1]
    rfl
  · next e1 hedges =>
    have h1 : s.clk.ahead = [e1] := hedges
    have hsecond : ({ s with clk := .placed s.clk.line e1 } : State).clkNextEdge =
        .signal .endOfStream { s with clk := .placed s.clk.line e1 } :=
      State.clkNextEdge_of_none (Cursor.ahead_placed hl h1)
    rw [State.clkNextEdge_of_ahead hclk h1, Res.andThen_of_ok, hsecond, Res.andThen_of_signal, h1]
    rfl
  · next hedges =>
    have h1 : s.clk.ahead = [] := hedges
    have hstay : Cursor.placed s.clk.line (s.clk.ahead.getLast?.getD s.clk.pos) = s.clk := by
      rw [h1]; exact (Cursor.eq_placed hlevel).symm
    rw [State.clkNextEdge_of_none h1, Res.andThen_of_signal, hstay]

/-! ALIGN_DATA (R82). -/

/-- The clock and the data cursors go to the data start; then the clock is aligned, and the data cursors follow it. -/
theorem State.alignData_eq {s : State} (hwf : s.cursorsWf = true) (haligned : s.dataAligned = true)
    (hpos : s.clk.pos ≤ s.dataStartSample) (hp : s.dataStartSample < s.nSamples) :
    s.alignData = (s.dataAt s.dataStartSample).alignClock.andThen fun _ u => (u.datTo u.clk.pos).andThen fun _ v =>
      .ok () { v with dataBlockStartSample := v.clk.pos, byteStart := v.clk.pos, unitCount := 0 } := by
  obtain ⟨-, hclk, -, hdat⟩ := State.cursorsWf_iff.1 hwf
  have hmoved : ({ s with clk := .placed s.clk.line s.dataStartSample } : State).datTo s.dataStartSample =
      .ok () (s.dataAt s.dataStartSample) :=
    State.datTo_of_wf hdat (fun d hd => (State.dataAligned_iff.1 haligned d hd).trans_le hpos) hp
  simp only [State.alignData, State.clkTo_of_wf hclk hpos hp, Res.andThen_of_ok, hmoved]

theorem State.alignData_of_alignedAt {s : State} {c : Nat} (hwf : s.cursorsWf = true) (haligned : s.dataAligned = true)
    (hpos : s.clk.pos ≤ s.dataStartSample) (hp : s.dataStartSample < s.nSamples)
    (h : s.alignedAt s.dataStartSample c = true) :
    s.alignData = .ok () { s.dataAt c with dataBlockStartSample := c, byteStart := c, unitCount := 0 } ∧
      s.dataStartSample < c ∧ c < s.nSamples ∧ c ∈ s.clk.line.edges ∧ s.clk.line.levelAt c = s.sampleLevel := by
  obtain ⟨-, hclkp, -, hdatp⟩ := State.cursorsWf_iff.1 (State.dataAt_cursorsWf hwf hp)
  obtain ⟨halign, hpc, hc, hmem, hlevel⟩ := State.alignClock_of_alignedAt (s := s.dataAt s.dataStartSample) hclkp h
  have hfollow : ({ s.dataAt s.dataStartSample with clk := .placed s.clk.line c } : State).datTo c = .ok () (s.dataAt c) :=
    (State.datTo_of_wf (s := { s.dataAt s.dataStartSample with clk := .placed s.clk.line c }) hdatp
      (fun d hd => by
        obtain ⟨e, -, rfl⟩ := State.mem_dataAt.1 hd
        exact hpc.le) hc).trans
      (congrArg (Res.ok ()) (State.dataAt_dataAt s.dataStartSample c s))
  refine ⟨?_, hpc, hc, hmem, hlevel⟩
  rw [State.alignData_eq hwf haligned hpos hp, halign, Res.andThen_of_ok]
  exact congrArg (fun r => r.andThen fun _ v =>
    .ok () { v with dataBlockStartSample := v.clk.pos, byteStart := v.clk.pos, unitCount := 0 }) hfollow

theorem State.alignData_of_unalignable {s : State} (hwf : s.cursorsWf = true) (haligned : s.dataAligned = true)
    (hpos : s.clk.pos ≤ s.dataStartSample) (hp : s.dataStartSample < s.nSamples)
    (h : s.unalignable s.dataStartSample = true) :
    s.alignData = .signal .endOfStream
      { s.dataAt s.dataStartSample with clk := .placed s.clk.line (max s.dataStartSample s.clk.line.lastEdge) } := by
  obtain ⟨-, hclkp, -, -⟩ := State.cursorsWf_iff.1 (State.dataAt_cursorsWf hwf hp)
  have halign := State.alignClock_of_unalignable (s := s.dataAt s.dataStartSample) hclkp h
  rw [State.alignData_eq hwf haligned hpos hp, halign, Res.andThen_of_signal]
  rfl

/-! The race and, where it finds data, the alignment: what ARBITRATE and a block end share. -/

/-- The state after the race has found a data start at `p`, wherever it left the cursors, is aligned as from `s`. -/
theorem State.arbitrate_alignData_of_alignedAt {s : State} {p c : Nat} (hwf : s.cursorsWf = true)
    (haligned : s.dataAligned = true) (hfall : s.firstDataFall p = true) (hbound : s.inBound p)
    (h : s.alignedAt p c = true) :
    ∃ u, s.arbitrate = .ok .dataPresent u ∧ u.alignData = .ok () { s.dataAt c with
        dataStartSample := p, dataBlockStartSample := c, byteStart := c, unitCount := 0 } ∧
      p < c ∧ c < s.nSamples ∧ c ∈ s.clk.line.edges ∧ s.clk.line.levelAt c = s.sampleLevel := by
  have hp := State.firstDataFall_lt hwf hfall
  obtain ⟨q, -, hqp, harb⟩ := State.arbitrate_of_firstDataFall hwf haligned hfall hbound
  obtain ⟨halign, hbounds⟩ := State.alignData_of_alignedAt (s := { s.dataAt q with dataStartSample := p })
    (State.dataAt_cursorsWf hwf (by omega)) (State.dataAt_dataAligned q s) hqp hp h
  have hsame := congrArg (fun t : State => Res.ok () { t with
    dataStartSample := p, dataBlockStartSample := c, byteStart := c, unitCount := 0 }) (State.dataAt_dataAt q c s)
  exact ⟨_, harb, halign.trans hsame, hbounds⟩

theorem State.arbitrate_alignData_of_unalignable {s : State} {p : Nat} (hwf : s.cursorsWf = true)
    (haligned : s.dataAligned = true) (hfall : s.firstDataFall p = true) (hbound : s.inBound p)
    (h : s.unalignable p = true) :
    ∃ u, s.arbitrate = .ok .dataPresent u ∧ u.alignData = .signal .endOfStream { s.dataAt p with
      dataStartSample := p, clk := .placed s.clk.line (max p s.clk.line.lastEdge) } := by
  have hp := State.firstDataFall_lt hwf hfall
  obtain ⟨q, -, hqp, harb⟩ := State.arbitrate_of_firstDataFall hwf haligned hfall hbound
  have halign := State.alignData_of_unalignable (s := { s.dataAt q with dataStartSample := p })
    (State.dataAt_cursorsWf hwf (by omega)) (State.dataAt_dataAligned q s) hqp hp h
  have hsame := congrArg (fun t : State => (Res.signal .endOfStream { t with
    dataStartSample := p, clk := .placed s.clk.line (max p s.clk.line.lastEdge) } : Res Unit))
    (State.dataAt_dataAt q p s)
  exact ⟨_, harb, halign.trans hsame⟩

/-! The row. -/

theorem exec_extractByte_of_line {sss : BitVec 3} {s : State} (h : s.dat ≠ .absent) :
    exec (.extractByte sss) s = .next (s.read none) := by
  change execExtractByte sss s = _
  unfold execExtractByte
  cases hdat : s.dat with
  | absent => exact absurd hdat h
  | one | four => rfl

theorem DataSet.map_ne_absent {α β : Type} {f : α → β} {d : DataSet α} (h : d ≠ .absent) : d.map f ≠ .absent := by
  cases d with
  | absent => exact absurd rfl h
  | one | four => exact nofun

theorem State.dat_ne_absent_of_firstDataFall {s : State} {p : Nat} (hfall : s.firstDataFall p = true) :
    s.dat ≠ .absent := by
  obtain ⟨-, ⟨d, hd, -⟩, -⟩ := State.firstDataFall_iff.1 hfall
  intro habsent
  simp [habsent, DataSet.toList] at hd

/-- Settles O17: the race answers with the fall, and the fall-through of the driver is the first EXTRACT_BYTE. -/
theorem arbitrateStartsTheEarliestDataTransfer : Obligations.ArbitrateStartsTheEarliestDataTransfer := by
  unfold Obligations.ArbitrateStartsTheEarliestDataTransfer
  intro sss s p c hwf haligned hfall hbound halignedAt
  obtain ⟨u, harb, halign, -⟩ := State.arbitrate_alignData_of_alignedAt hwf haligned hfall hbound halignedAt
  refine ⟨_, rfl, ?_⟩
  rw [exec_extractByte_of_line (DataSet.map_ne_absent (State.dat_ne_absent_of_firstDataFall hfall)),
    State.iterateArbitrate, harb, Res.orTerminate_of_ok]
  simp only
  rw [halign]
  rfl

/-- Settles O18: the race answers without data, and the fall-through of the driver is the StartBit row or the end. -/
theorem arbitrateWithoutDataGoesToTheCommand : Obligations.ArbitrateWithoutDataGoesToTheCommand := by
  unfold Obligations.ArbitrateWithoutDataGoesToTheCommand
  intro sss s hwf haligned hnone
  have harb := State.arbitrate_of_noDataFall hwf haligned hnone
  refine ⟨_, _, rfl, s.lastPassed_bounds.1, s.lastPassed_bounds.2, rfl, ?_⟩
  rw [State.iterateArbitrate, harb, Res.orTerminate_of_ok]
  have hvalid : (s.dataAt s.lastPassed).cmdStartValid = s.cmdStartValid := rfl
  simp only [hvalid]
  split
  · exact exec_fsmRow _ _
  · exact State.terminate_eq _ _

end Sys2Proof.Machine
end

section
/-! PROOFS. The Data Extractor (spec/43_data_extractor.md): the per-bit step as a movement of the cursors and a group of bits;
walks of per-bit steps; and the loop of EXTRACT_BYTE along a walk. -/

namespace Sys2Proof.Machine

/-! Cursors inside the capture stay inside it. -/

theorem Cursor.wf_of_nextEdge {n : Nat} {c d : Cursor} (hc : c.wf n = true) (h : c.nextEdge = .ok d) : d.wf n = true := by
  obtain ⟨q, qs, hq, -⟩ := Cursor.nextEdge_ok.1 h
  obtain ⟨hnext, hwf⟩ := Cursor.nextEdge_of_ahead hc hq
  rw [hnext] at h
  cases h
  exact hwf

theorem Cursor.wf_of_toAbs {n p : Nat} {c d : Cursor} (hc : c.wf n = true) (h : c.toAbs n p = .ok d) :
    d.wf n = true := by
  obtain ⟨hl, -, hlevel⟩ := Cursor.wf_iff.1 hc
  obtain ⟨-, hp, -⟩ := Cursor.toAbs_ok.1 h
  exact Cursor.wf_iff.2 ⟨Cursor.toAbs_line h ▸ hl, (Cursor.toAbs_pos h).symm ▸ hp, Cursor.toAbs_level_eq_levelAt hlevel h⟩

theorem DataSet.forall_each {P : Cursor → Prop} {f : Cursor → Except Signal Cursor} {d : DataSet Cursor}
    (hP : ∀ c e, P c → f c = .ok e → P e) (hd : ∀ c ∈ d.toList, P c) : ∀ c ∈ (d.each f).1.toList, P c := by
  cases d with
  | absent => exact hd
  | one d0 =>
    simp only [DataSet.toList, List.mem_singleton, forall_eq] at hd
    simp only [DataSet.each]
    split
    · simpa [DataSet.toList] using hd
    · next h => simpa [DataSet.toList] using hP _ _ hd h
  | four d0 d1 d2 d3 =>
    simp only [DataSet.toList, List.mem_cons, List.not_mem_nil, or_false, forall_eq_or_imp, forall_eq] at hd
    obtain ⟨g0, g1, g2, g3⟩ := hd
    simp only [DataSet.each]
    split
    · simp [DataSet.toList, *]
    · next h0 =>
      split
      · simp [DataSet.toList, hP _ _ g0 h0, *]
      · next h1 =>
        split
        · simp [DataSet.toList, hP _ _ g0 h0, hP _ _ g1 h1, *]
        · next h2 =>
          split
          · simp [DataSet.toList, hP _ _ g0 h0, hP _ _ g1 h1, hP _ _ g2 h2, *]
          · next h3 => simp [DataSet.toList, hP _ _ g0 h0, hP _ _ g1 h1, hP _ _ g2 h2, hP _ _ g3 h3]

/-! The group of bits of a per-bit step (R86, R87). -/

/-- The bits that a per-bit step packs, most significant first: those of the unit where one is given, else the levels. -/
def State.groupBits (src : Option Byte) (s : State) : List Bool :=
  match s.dat with
  | .absent => []
  | .one d0 => [(src.map (unitBit · s.dnb)).getD d0.level]
  | .four d0 d1 d2 d3 => (src.map (fun d => bitsOf (unitNibble d s.dnb))).getD [d3.level, d2.level, d1.level, d0.level]

theorem eq_of_bitsOf_eq {n : Nat} {v w : BitVec n} (h : bitsOf v = bitsOf w) : v = w := by
  have key := congrArg (fun bits => bits.foldl shl1 (0 : BitVec n)) h
  simpa only [foldl_shl1_bitsOf, BitVec.setWidth_eq] using key

theorem bitsOf_shl4 (v : Byte) (g : BitVec 4) : bitsOf (shl4 v g) = (bitsOf v ++ bitsOf g).drop 4 := by
  apply List.ext_getElem
  · simp
  · intro k hk _
    rw [bitsOf_length] at hk
    rw [List.getElem_drop, List.getElem_append]
    have hgroup : (shl4 v g).getMsbD k = if h : k < 4 then v.getMsbD (4 + k) else g.getMsbD (k - 4) := by
      revert v g
      interval_cases k <;> intro v g <;>
        simp [shl4, BitVec.getMsbD_eq_getLsbD]
    simp only [bitsOf, List.length_map, List.length_range, List.getElem_map, List.getElem_range, hgroup]
    by_cases hlow : k < 4
    · simp [hlow, show 4 + k < 8 by omega]
    · simp [hlow, show ¬ 4 + k < 8 by omega, show 4 + k - 8 = k - 4 by omega]

/-- Shifting in four bits at once, or one at a time (R51). -/
theorem shl4_eq_foldl_shl1 (v : Byte) (g : BitVec 4) : shl4 v g = (bitsOf g).foldl shl1 v := by
  apply eq_of_bitsOf_eq
  rw [bitsOf_shl4, bitsOf_foldl_shl1, bitsOf_length]

theorem bitsOf_nibbleOf (d0 d1 d2 d3 : Bool) : bitsOf (nibbleOf d0 d1 d2 d3) = [d3, d2, d1, d0] := by
  revert d0 d1 d2 d3; decide

/-- One equation for the packing with no line, one and four lines. -/
theorem State.packGroup_eq (src : Option Byte) (s : State) :
    s.packGroup src =
      { s with dacc := (s.groupBits src).foldl shl1 s.dacc, dnb := s.dnb + BitVec.ofNat 4 s.nDat } := by
  unfold State.packGroup State.groupBits State.nDat
  cases hdat : s.dat with
  | absent => cases s; simp_all [DataSet.count]
  | one d0 => simp [DataSet.count]
  | four d0 d1 d2 d3 =>
    cases src with
    | none => simp [DataSet.count, shl4_eq_foldl_shl1, bitsOf_nibbleOf]
    | some d => simp [DataSet.count, shl4_eq_foldl_shl1]

/-! The movement of a per-bit step: a function of the cursors alone. -/

/-- Where a per-bit step leaves the clock and the data cursors, and the boundary edge or the signal (R88). -/
def bitMove (n : Nat) (clk : Cursor) (dat : DataSet Cursor) : Cursor × DataSet Cursor × Except Signal Nat :=
  match clk.nextEdge with
  | .error x => (clk, dat, .error x)
  | .ok b =>
    match b.nextEdge with
    | .error x => (b, dat, .error x)
    | .ok c =>
      match dat.each (Cursor.toAbs n c.pos) with
      | (e, some x) => (c, e, .error x)
      | (e, none) => (c, e, .ok b.pos)

/-- The state of a per-bit step from `s`, with the clock and the data cursors where it leaves them. -/
def State.bitMoved (src : Option Byte) (clk : Cursor) (dat : DataSet Cursor) (s : State) : State :=
  { s with
    clk := clk, dat := dat, dacc := (s.groupBits src).foldl shl1 s.dacc, dnb := s.dnb + BitVec.ofNat 4 s.nDat
    out := s.out ++ [.marker s.clk.pos .sampleEdge .clk] }

/-- A value as the result of an operation that leaves `s`. -/
def Res.ofExcept {α : Type} (r : Except Signal α) (s : State) : Res α :=
  match r with
  | .ok a => .ok a s
  | .error x => .signal x s

theorem State.bitStep_eq (src : Option Byte) (s : State) :
    s.bitStep src =
      .ofExcept (bitMove s.nSamples s.clk s.dat).2.2
        (s.bitMoved src (bitMove s.nSamples s.clk s.dat).1 (bitMove s.nSamples s.clk s.dat).2.1) := by
  have hpack := (s.marker s.clk.pos .sampleEdge .clk).packGroup_eq src
  simp only [State.bitStep, hpack, State.clkNextEdge, State.datTo, bitMove, State.marker_clk, State.marker_dat,
    State.marker_nSamples]
  cases s.clk.nextEdge with
  | error x => rfl
  | ok b =>
    simp only [Res.andThen_of_ok]
    cases b.nextEdge with
    | error x => rfl
    | ok c =>
      simp only [Res.andThen_of_ok]
      rcases s.dat.each (Cursor.toAbs s.nSamples c.pos) with ⟨e, _ | x⟩ <;> rfl

theorem Res.ofExcept_ok {α : Type} {r : Except Signal α} {s t : State} {a : α} :
    Res.ofExcept r s = .ok a t ↔ r = .ok a ∧ s = t := by
  cases r <;> simp [Res.ofExcept]

theorem Res.ofExcept_signal {α : Type} {r : Except Signal α} {s t : State} {x : Signal} :
    Res.ofExcept r s = .signal x t ↔ r = .error x ∧ s = t := by
  cases r <;> simp [Res.ofExcept]

/-- The same cursors make the same movement, whatever the registers and the source of the bits. -/
theorem State.bitStep_of_same_cursors {s s' t : State} {src src' : Option Byte} {boundary : Nat} (hclk : s'.clk = s.clk)
    (hdat : s'.dat = s.dat) (hn : s'.nSamples = s.nSamples) (h : s.bitStep src = .ok boundary t) :
    s'.bitStep src' = .ok boundary (s'.bitMoved src' t.clk t.dat) := by
  rw [State.bitStep_eq] at h
  obtain ⟨hmove, rfl⟩ := Res.ofExcept_ok.1 h
  rw [State.bitStep_eq, hclk, hdat, hn]
  exact Res.ofExcept_ok.2 ⟨hmove, rfl⟩

theorem State.bitStep_signal_of_same_cursors {s s' t : State} {src src' : Option Byte} {x : Signal}
    (hclk : s'.clk = s.clk) (hdat : s'.dat = s.dat) (hn : s'.nSamples = s.nSamples) (h : s.bitStep src = .signal x t) :
    s'.bitStep src' = .signal x (s'.bitMoved src' t.clk t.dat) := by
  rw [State.bitStep_eq] at h
  obtain ⟨hmove, rfl⟩ := Res.ofExcept_signal.1 h
  rw [State.bitStep_eq, hclk, hdat, hn]
  exact Res.ofExcept_signal.2 ⟨hmove, rfl⟩

/-- A per-bit step that completes: its boundary edge is the next edge of the clock, and the next sampling edge lies beyond
it. -/
theorem State.bitStep_edges {s t : State} {src : Option Byte} {boundary : Nat} (h : s.bitStep src = .ok boundary t) :
    t = s.bitMoved src t.clk t.dat ∧ s.clk.peek = .ok boundary ∧ s.clk.pos < boundary ∧ boundary < t.clk.pos ∧
      s.clk.Moved t.clk ∧ s.dat.Moved t.dat := by
  obtain ⟨b, c, d, hb, hc, hd, rfl, ht⟩ := State.bitStep_ok.1 h
  have hsame : t = s.bitMoved src t.clk t.dat := by
    rw [State.bitStep_eq] at h
    obtain ⟨-, rfl⟩ := Res.ofExcept_ok.1 h
    rfl
  have hforward := s.bitStep_forward src
  rw [h] at hforward
  have hclk : t.clk = c := by rw [ht]
  refine ⟨hsame, ?_, Cursor.nextEdge_pos_lt hb, hclk ▸ Cursor.nextEdge_pos_lt hc, hforward.clk, hforward.dat⟩
  obtain ⟨q, qs, hq, rfl⟩ := Cursor.nextEdge_ok.1 hb
  exact Cursor.peek_ok.2 ⟨qs, hq⟩

/-! Walks of per-bit steps. -/

/-- `k` per-bit steps whose bits are those of the unit, where one is given: as `bitWalk`, which samples the lines. -/
def State.unitWalk (src : Option Byte) : Nat → State → Option (List Nat × List Nat × State)
  | 0, s => some ([], [], s)
  | k + 1, s =>
    match s.bitStep src with
    | .signal _ _ => none
    | .ok boundary t => (State.unitWalk src k t).map (fun r => (s.clk.pos :: r.1, boundary :: r.2.1, r.2.2))

theorem State.unitWalk_none (k : Nat) (s : State) : State.unitWalk none k s = State.bitWalk k s := by
  induction k generalizing s with
  | zero => rfl
  | succ k ih =>
    rw [State.unitWalk, State.bitWalk]
    cases s.bitStep none with
    | signal x t => rfl
    | ok boundary t => simp only [ih]

theorem State.unitWalk_zero {src : Option Byte} {s u : State} {ps bs : List Nat} :
    State.unitWalk src 0 s = some (ps, bs, u) ↔ ps = [] ∧ bs = [] ∧ u = s := by
  simp [State.unitWalk, eq_comm]

theorem State.unitWalk_succ {src : Option Byte} {s u : State} {k : Nat} {ps bs : List Nat} :
    State.unitWalk src (k + 1) s = some (ps, bs, u) ↔
      ∃ boundary t ps' bs', s.bitStep src = .ok boundary t ∧ State.unitWalk src k t = some (ps', bs', u) ∧
        ps = s.clk.pos :: ps' ∧ bs = boundary :: bs' := by
  rw [State.unitWalk]
  cases s.bitStep src with
  | signal x t => simp
  | ok boundary t => simp [eq_comm, and_assoc]

/-- The markers of the samples read. -/
def sampleMarkers (ps : List Nat) : List Event := ps.map (fun p => .marker p .sampleEdge .clk)

/-- What a walk leaves: the cursors moved, the bits packed, a marker at every sample read; nothing else. -/
theorem State.unitWalk_frame {src : Option Byte} {s u : State} {k : Nat} {ps bs : List Nat}
    (h : State.unitWalk src k s = some (ps, bs, u)) :
    u = { s with
      clk := u.clk, dat := u.dat, dacc := u.dacc, dnb := s.dnb + BitVec.ofNat 4 (k * s.nDat)
      out := s.out ++ sampleMarkers ps } ∧ s.clk.Moved u.clk ∧ s.dat.Moved u.dat := by
  induction k generalizing s ps bs with
  | zero =>
    obtain ⟨rfl, -, rfl⟩ := State.unitWalk_zero.1 h
    exact ⟨by simp [sampleMarkers], .refl _, .refl _⟩
  | succ k ih =>
    obtain ⟨boundary, t, ps', bs', hstep, hrest, rfl, -⟩ := State.unitWalk_succ.1 h
    obtain ⟨ht, -, -, -, hclk, hdat⟩ := State.bitStep_edges hstep
    obtain ⟨hu, hclk', hdat'⟩ := ih hrest
    refine ⟨?_, hclk.trans hclk', hdat.trans hdat'⟩
    have hcount : t.nDat = s.nDat := by
      have hlines := congrArg (fun d => d.toList.length) hdat.lines_eq
      simpa [State.nDat] using hlines
    rw [hcount, ht] at hu
    rw [hu]
    simp only [State.bitMoved, sampleMarkers, List.map_cons, List.append_assoc, List.singleton_append, Nat.succ_mul,
      BitVec.ofNat_add, BitVec.add_assoc, BitVec.add_comm (BitVec.ofNat 4 s.nDat)]

/-- The samples read and the boundary edges alternate, in ascending order. -/
theorem State.unitWalk_order {src : Option Byte} {s u : State} {k : Nat} {ps bs : List Nat}
    (h : State.unitWalk src k s = some (ps, bs, u)) :
    ps.length = k ∧ bs.length = k ∧ bs.Pairwise (· < ·) ∧ ∀ b ∈ bs, s.clk.pos < b ∧ b < u.clk.pos := by
  induction k generalizing s ps bs with
  | zero =>
    obtain ⟨rfl, rfl, rfl⟩ := State.unitWalk_zero.1 h
    simp
  | succ k ih =>
    obtain ⟨boundary, t, ps', bs', hstep, hrest, rfl, rfl⟩ := State.unitWalk_succ.1 h
    obtain ⟨-, -, hpos, hnext, -, -⟩ := State.bitStep_edges hstep
    obtain ⟨hps, hbs, hsorted, hbetween⟩ := ih hrest
    have hend : t.clk.pos ≤ u.clk.pos := (State.unitWalk_frame hrest).2.1.2
    refine ⟨by simp [hps], by simp [hbs], List.pairwise_cons.2 ⟨fun b hb => ?_, hsorted⟩, fun b hb => ?_⟩
    · exact hnext.trans (hbetween b hb).1
    · rcases List.mem_cons.1 hb with rfl | hlater
      · exact ⟨hpos, by omega⟩
      · have := hbetween b hlater
        exact ⟨by omega, this.2⟩

/-- A walk depends on the cursors alone. -/
theorem State.unitWalk_of_same_cursors {s s' u : State} {src src' : Option Byte} {k : Nat} {ps bs : List Nat}
    (hclk : s'.clk = s.clk) (hdat : s'.dat = s.dat) (hn : s'.nSamples = s.nSamples)
    (h : State.unitWalk src k s = some (ps, bs, u)) :
    ∃ u', State.unitWalk src' k s' = some (ps, bs, u') ∧ u'.clk = u.clk ∧ u'.dat = u.dat := by
  induction k generalizing s s' ps bs with
  | zero =>
    obtain ⟨rfl, rfl, rfl⟩ := State.unitWalk_zero.1 h
    exact ⟨s', rfl, hclk, hdat⟩
  | succ k ih =>
    obtain ⟨boundary, t, ps', bs', hstep, hrest, rfl, rfl⟩ := State.unitWalk_succ.1 h
    have hstep' := State.bitStep_of_same_cursors (src' := src') hclk hdat hn hstep
    obtain ⟨ht, -⟩ := State.bitStep_edges hstep
    have hnt : t.nSamples = s.nSamples := by rw [ht]; rfl
    obtain ⟨u', hrest', hu⟩ := ih (s := t) (s' := s'.bitMoved src' t.clk t.dat) rfl rfl (hn.trans hnt.symm) hrest
    exact ⟨u', State.unitWalk_succ.2 ⟨_, _, _, _, hstep', hrest', by rw [hclk], rfl⟩, hu⟩

/-! What a walk packs. -/

/-- Every data cursor stands at the clock with its line's level there. -/
def State.Sampling (s : State) : Prop := ∀ d ∈ s.dat.toList, d.pos = s.clk.pos ∧ d.level = d.line.levelAt d.pos

theorem State.sampling_of_aligned {s : State} (hwf : s.cursorsWf = true) (haligned : s.dataAligned = true) :
    s.Sampling := fun d hd =>
  ⟨State.dataAligned_iff.1 haligned d hd, (Cursor.wf_iff.1 ((State.cursorsWf_iff.1 hwf).2.2.2 d hd)).2.2⟩

/-- Sampled bits are the levels of the lines at the clock's position (R86, R87). -/
theorem State.groupBits_of_sampling {s : State} (h : s.Sampling) : s.groupBits none = s.groupAt s.clk.pos := by
  unfold State.Sampling at h
  unfold State.groupBits State.groupAt
  cases hdat : s.dat with
  | absent => rfl
  | one d0 =>
    rw [hdat] at h
    obtain ⟨hpos, hlevel⟩ := h d0 (by simp [DataSet.toList])
    simp [hlevel, hpos]
  | four d0 d1 d2 d3 =>
    rw [hdat] at h
    simp only [DataSet.toList, List.mem_cons, List.not_mem_nil, or_false, forall_eq_or_imp, forall_eq] at h
    obtain ⟨⟨hp0, hl0⟩, ⟨hp1, hl1⟩, ⟨hp2, hl2⟩, ⟨hp3, hl3⟩⟩ := h
    simp [hp0, hl0, hp1, hl1, hp2, hl2, hp3, hl3]

theorem State.groupAt_of_moved {s t : State} (h : s.dat.Moved t.dat) (p : Nat) : t.groupAt p = s.groupAt p := by
  unfold State.groupAt
  generalize s.dat = d at h
  generalize t.dat = e at h
  cases h with
  | absent => rfl
  | one h => simp only [h.1]
  | four h0 h1 h2 h3 => simp only [h0.1, h1.1, h2.1, h3.1]

/-- A per-bit step leaves the data cursors at the clock, inside the capture. -/
theorem State.bitStep_keeps {s t : State} {src : Option Byte} {boundary : Nat} (hwf : s.cursorsWf = true)
    (h : s.bitStep src = .ok boundary t) : t.cursorsWf = true ∧ t.dataAligned = true := by
  obtain ⟨hn, hclk, hcmd, hdat⟩ := State.cursorsWf_iff.1 hwf
  obtain ⟨b, c, d, hb, hc, hd, -, ht⟩ := State.bitStep_ok.1 h
  rw [State.packGroup_eq] at hd ht
  have hlines : ∀ e ∈ d.toList, e.wf s.nSamples = true := by
    have hkept := DataSet.forall_each (d := s.dat) (P := fun e => e.wf s.nSamples = true)
      (fun _ _ he hmove => Cursor.wf_of_toAbs he hmove) hdat (f := Cursor.toAbs s.nSamples c.pos)
    simp only at hd
    rwa [hd] at hkept
  have hpos : ∀ e ∈ d.toList, e.pos = c.pos :=
    State.datTo_pos (s := { s with clk := c }) (t := { s with clk := c, dat := d }) (u := ()) (State.datTo_ok.2 ⟨d, hd, rfl⟩)
  subst ht
  exact ⟨State.cursorsWf_iff.2 ⟨hn, Cursor.wf_of_nextEdge (Cursor.wf_of_nextEdge hclk hb) hc, hcmd, hlines⟩,
    State.dataAligned_iff.2 hpos⟩

theorem State.unitWalk_keeps {s u : State} {src : Option Byte} {k : Nat} {ps bs : List Nat} (hwf : s.cursorsWf = true)
    (haligned : s.dataAligned = true) (h : State.unitWalk src k s = some (ps, bs, u)) :
    u.cursorsWf = true ∧ u.dataAligned = true := by
  induction k generalizing s ps bs with
  | zero =>
    obtain ⟨-, -, rfl⟩ := State.unitWalk_zero.1 h
    exact ⟨hwf, haligned⟩
  | succ k ih =>
    obtain ⟨boundary, t, ps', bs', hstep, hrest, -, -⟩ := State.unitWalk_succ.1 h
    obtain ⟨hwf', haligned'⟩ := State.bitStep_keeps hwf hstep
    exact ih hwf' haligned' hrest

/-- A walk that samples shifts in the levels at the samples read, in their order (R86, R87). -/
theorem State.unitWalk_none_dacc {s u : State} {k : Nat} {ps bs : List Nat} (hwf : s.cursorsWf = true)
    (haligned : s.dataAligned = true) (h : State.unitWalk none k s = some (ps, bs, u)) :
    u.dacc = (ps.flatMap s.groupAt).foldl shl1 s.dacc := by
  induction k generalizing s ps bs with
  | zero =>
    obtain ⟨rfl, -, rfl⟩ := State.unitWalk_zero.1 h
    rfl
  | succ k ih =>
    obtain ⟨boundary, t, ps', bs', hstep, hrest, rfl, -⟩ := State.unitWalk_succ.1 h
    obtain ⟨ht, -, -, -, -, hmoved⟩ := State.bitStep_edges hstep
    obtain ⟨hwf', haligned'⟩ := State.bitStep_keeps hwf hstep
    have hdacc : t.dacc = (s.groupAt s.clk.pos).foldl shl1 s.dacc := by
      rw [ht, ← State.groupBits_of_sampling (State.sampling_of_aligned hwf haligned)]
      rfl
    have hgroup : t.groupAt = s.groupAt := funext (State.groupAt_of_moved hmoved)
    rw [ih hwf' haligned' hrest, hgroup, hdacc, List.flatMap_cons, List.foldl_append]

end Sys2Proof.Machine
end

section
/-! PROOFS. EXTRACT_BYTE (spec/43_data_extractor.md): the loop of R94 along a walk of per-bit steps, the five ways a pass can go
on, and the statements about the row. -/

namespace Sys2Proof.Machine

/-! The interruption test (R89). -/

theorem State.interruptionTest_of_notDue {s : State} (h : s.notDue s = true) : s.interruptionTest = .ok false s := by
  refine State.interruptionTest_ok.2 ?_
  cases hvalid : s.cmdStartValid with
  | false => exact .inl ⟨rfl, rfl, rfl⟩
  | true =>
    cases hpeek : s.clk.peek with
    | error x => simp [State.notDue, hvalid, hpeek] at h
    | ok q =>
      have hlt : q < s.cmdStartSample := by simpa [State.notDue, hvalid, hpeek] using h
      exact .inr ⟨rfl, q, rfl, .inl ⟨hlt, rfl, rfl⟩⟩

theorem State.interruptionTest_of_due {s : State} (h : s.due s = true) : s.interruptionTest = .ok true s := by
  obtain ⟨⟨hvalid, hlow⟩, hnext⟩ : (s.cmdStartValid = true ∧ s.cmd.level = false) ∧ _ := by
    simpa [State.due] using h
  cases hpeek : s.clk.peek with
  | error x => simp [hpeek] at hnext
  | ok q =>
    have hle : s.cmdStartSample ≤ q := by simpa [hpeek] using hnext
    exact State.interruptionTest_ok.2 (.inr ⟨hvalid, q, hpeek, .inr (.inl ⟨hle, hlow, rfl, rfl⟩)⟩)

theorem State.interruptionTest_of_noEdge {s : State} (hvalid : s.cmdStartValid = true) (h : s.clk.ahead = []) :
    s.interruptionTest = .signal .endOfStream s := by
  have hpeek : s.clkPeek = .signal .endOfStream s := State.clkPeek_signal.2 ⟨by simp [Cursor.peek, h], rfl⟩
  simp [State.interruptionTest, hvalid, hpeek]

/-! One pass of the loop (R94). -/

/-- What a pass does after its per-bit step. -/
def State.finishPass (src : Option Byte) (fuel boundary : Nat) (s : State) : Res Extracted :=
  s.interruptionTest.andThen fun interrupted s =>
  let s := if s.dnb = 8 then s.completeByte boundary else s
  if interrupted then .ok .interrupted s.closePacket
  else if s.dnb = 8 then
    if s.unitCount.toNat = Config.BLOCK_UNITS then s.endBlock else .ok .byteDone s
  else State.extractPasses src fuel s

theorem State.extractPasses_succ (src : Option Byte) (fuel : Nat) (s : State) :
    State.extractPasses src (fuel + 1) s = (s.bitStep src).andThen (State.finishPass src fuel) := rfl

theorem State.completeByte_eq (boundary : Nat) (s : State) :
    s.completeByte boundary = { s with
      byteStart := boundary, unitCount := s.unitCount + 1
      packetOpen := s.packetOpen || !s.config.suppressDataFrames
      out := s.out ++ shown s.config.suppressDataFrames (.upTo .dataByte s.byteStart boundary (s.dacc.setWidth 64) 0 0)
        ++ [.progress s.clk.pos] } := by
  unfold State.completeByte
  rw [State.addFrame_unless_suppressed]
  rfl

@[simp] theorem State.completeByte_dnb (boundary : Nat) (s : State) : (s.completeByte boundary).dnb = s.dnb := by
  rw [State.completeByte_eq]

@[simp] theorem State.completeByte_unitCount (boundary : Nat) (s : State) :
    (s.completeByte boundary).unitCount = s.unitCount + 1 := by
  rw [State.completeByte_eq]

section
variable {src : Option Byte} {fuel boundary : Nat} {s t : State} {interrupted : Bool}

/-- Before the last bit of a byte a pass goes on, unless it is interrupted. -/
theorem State.finishPass_of_bits (htest : s.interruptionTest = .ok interrupted t) (hdnb : t.dnb ≠ 8) :
    State.finishPass src fuel boundary s =
      if interrupted then .ok .interrupted t.closePacket else State.extractPasses src fuel t := by
  simp only [State.finishPass, htest, Res.andThen_of_ok, if_neg hdnb]

/-- With the last bit of a byte the byte is complete, interrupted or not. -/
theorem State.finishPass_of_byte (htest : s.interruptionTest = .ok interrupted t) (hdnb : t.dnb = 8) :
    State.finishPass src fuel boundary s =
      if interrupted then .ok .interrupted (t.completeByte boundary).closePacket
      else if t.unitCount = 513 then (t.completeByte boundary).endBlock
      else .ok .byteDone (t.completeByte boundary) := by
  have hblock : (t.unitCount + 1).toNat = Config.BLOCK_UNITS ↔ t.unitCount = 513 := by
    rw [show Config.BLOCK_UNITS = 514 from rfl]
    constructor <;> intro h <;> bv_omega
  simp only [State.finishPass, htest, Res.andThen_of_ok, if_pos hdnb, State.completeByte_dnb, State.completeByte_unitCount,
    hblock]

theorem State.finishPass_of_noEdge (hvalid : s.cmdStartValid = true) (h : s.clk.ahead = []) :
    State.finishPass src fuel boundary s = .signal .endOfStream s := by
  rw [State.finishPass, State.interruptionTest_of_noEdge hvalid h, Res.andThen_of_signal]

end

/-! Passes along a walk. -/

/-- Passes whose boundary edges, but for the first, lie before the command start are not interrupted: the loop comes to the
end of the walk. -/
theorem State.extractPasses_of_walk {src : Option Byte} {fuel j : Nat} {s u : State} {ps bs : List Nat}
    (hwalk : State.unitWalk src (j + 1) s = some (ps, bs, u))
    (hbefore : ∀ b ∈ bs.tail, s.cmdStartValid = true → b < s.cmdStartSample) (hroom : s.dnb.toNat + j * s.nDat < 8) :
    State.extractPasses src (fuel + j + 1) s = State.finishPass src fuel (bs.getD j 0) u := by
  induction j generalizing s ps bs with
  | zero =>
    obtain ⟨boundary, t, ps', bs', hstep, hrest, -, rfl⟩ := State.unitWalk_succ.1 hwalk
    obtain ⟨-, -, rfl⟩ := State.unitWalk_zero.1 hrest
    rw [State.extractPasses_succ, hstep]
    rfl
  | succ j ih =>
    obtain ⟨boundary, t, ps', bs', hstep, hrest, -, rfl⟩ := State.unitWalk_succ.1 hwalk
    obtain ⟨boundary', t', ps'', bs'', hstep', -, -, rfl⟩ := State.unitWalk_succ.1 hrest
    obtain ⟨ht, -, -, -, -, hmoved⟩ := State.bitStep_edges hstep
    obtain ⟨-, hpeek, -⟩ := State.bitStep_edges hstep'
    have hlines : t.nDat = s.nDat := by
      simpa [State.nDat] using congrArg (fun d => d.toList.length) hmoved.lines_eq
    have hvalid : t.cmdStartValid = s.cmdStartValid := by rw [ht]; rfl
    have hstart : t.cmdStartSample = s.cmdStartSample := by rw [ht]; rfl
    have hdnb : t.dnb = s.dnb + BitVec.ofNat 4 s.nDat := by rw [ht]; rfl
    have hcount : t.dnb.toNat = s.dnb.toNat + s.nDat := by
      rw [Nat.add_mul, Nat.one_mul] at hroom
      rw [hdnb, BitVec.toNat_add, BitVec.toNat_ofNat]
      omega
    rw [Nat.add_mul, Nat.one_mul] at hroom
    have hnotDue : t.notDue t = true := by
      cases hv : s.cmdStartValid with
      | false => simp [State.notDue, hvalid, hv]
      | true => simp [State.notDue, hpeek, hstart, hbefore boundary' (by simp) hv]
    have hdnb8 : t.dnb ≠ 8 := by
      intro h
      rw [h] at hcount
      have : (8 : BitVec 4).toNat = 8 := rfl
      omega
    calc State.extractPasses src (fuel + (j + 1) + 1) s
      _ = State.finishPass src (fuel + j + 1) boundary t := by rw [State.extractPasses_succ, hstep]; rfl
      _ = State.extractPasses src (fuel + j + 1) t := State.finishPass_of_bits (State.interruptionTest_of_notDue hnotDue) hdnb8
      _ = State.finishPass src fuel ((boundary' :: bs'').getD j 0) u :=
          ih hrest (fun b hb hv => hstart ▸ hbefore b (List.mem_cons_of_mem _ hb) (hvalid ▸ hv)) (by
            rw [hcount, hlines]; omega)
      _ = State.finishPass src fuel ((boundary :: boundary' :: bs'').getD (j + 1) 0) u := rfl

/-- The state after a walk of per-bit steps that has read the samples `ps` and packed `v`. -/
def State.sampled (s : State) (clk : Cursor) (dat : DataSet Cursor) (ps : List Nat) (v : Byte) : State :=
  { s with clk := clk, dat := dat, dacc := v, dnb := BitVec.ofNat 4 (ps.length * s.nDat), out := s.out ++ sampleMarkers ps }

/-! What a walk packs of a unit given whole. -/

theorem State.nDat_of_moved {s t : State} (h : s.dat.Moved t.dat) : t.nDat = s.nDat := by
  simpa [State.nDat] using congrArg (fun d => d.toList.length) h.lines_eq

theorem State.unitCycles_of_moved {s t : State} (h : s.dat.Moved t.dat) : t.unitCycles = s.unitCycles := by
  unfold State.unitCycles
  generalize s.dat = d at h
  generalize t.dat = e at h
  cases h <;> rfl

theorem State.unitCycles_mul_nDat {s : State} {k : Nat} (h : k < s.unitCycles) : s.unitCycles * s.nDat = 8 ∧ 0 < s.nDat := by
  unfold State.unitCycles at *
  unfold State.nDat
  cases hdat : s.dat with
  | absent => simp [hdat] at h
  | one | four => simp [DataSet.count]

theorem bitsOf_unitNibble_zero (d : Byte) : bitsOf (unitNibble d 0) = (bitsOf d).take 4 := by
  revert d; decide

theorem bitsOf_unitNibble_four (d : Byte) : bitsOf (unitNibble d 4) = ((bitsOf d).drop 4).take 4 := by
  revert d; decide

/-- The bits of the unit that come after those of `k` per-bit steps, as many as a per-bit step takes. -/
theorem State.groupBits_some {d : Byte} {s : State} {k : Nat} (hdnb : s.dnb = BitVec.ofNat 4 (k * s.nDat))
    (hk : k < s.unitCycles) : s.groupBits (some d) = ((bitsOf d).drop (k * s.nDat)).take s.nDat := by
  unfold State.groupBits
  unfold State.unitCycles at hk
  unfold State.nDat at *
  generalize s.dat = dat at *
  cases dat with
  | absent => exact absurd hk (Nat.not_lt_zero k)
  | one d0 =>
    change k < 8 at hk
    change [unitBit d s.dnb] = ((bitsOf d).drop (k * 1)).take 1
    rw [hdnb]
    interval_cases k <;> rfl
  | four d0 d1 d2 d3 =>
    change k < 2 at hk
    change bitsOf (unitNibble d s.dnb) = ((bitsOf d).drop (k * 4)).take 4
    rw [hdnb]
    interval_cases k
    · exact bitsOf_unitNibble_zero d
    · exact bitsOf_unitNibble_four d

theorem State.unitWalk_some_dacc {d : Byte} {s u : State} {i k : Nat} {ps bs : List Nat}
    (hwalk : State.unitWalk (some d) k s = some (ps, bs, u)) (hdnb : s.dnb = BitVec.ofNat 4 (i * s.nDat))
    (hk : i + k ≤ s.unitCycles) :
    u.dacc = (((bitsOf d).drop (i * s.nDat)).take (k * s.nDat)).foldl shl1 s.dacc := by
  induction k generalizing s i ps bs with
  | zero =>
    obtain ⟨-, -, rfl⟩ := State.unitWalk_zero.1 hwalk
    simp
  | succ k ih =>
    obtain ⟨boundary, t, ps', bs', hstep, hrest, -, -⟩ := State.unitWalk_succ.1 hwalk
    obtain ⟨ht, -, -, -, -, hmoved⟩ := State.bitStep_edges hstep
    have hcount := State.nDat_of_moved hmoved
    have hdacc : t.dacc = (((bitsOf d).drop (i * s.nDat)).take s.nDat).foldl shl1 s.dacc := by
      rw [ht, ← State.groupBits_some hdnb (by omega)]; rfl
    have hdnb' : t.dnb = BitVec.ofNat 4 ((i + 1) * t.nDat) := by
      rw [hcount, Nat.succ_mul, BitVec.ofNat_add, ← hdnb, ht]; rfl
    have hrec := ih hrest hdnb' (by rw [State.unitCycles_of_moved hmoved]; omega)
    rw [hrec, hcount, hdacc, ← List.foldl_append, Nat.succ_mul, Nat.succ_mul, Nat.add_comm (k * s.nDat), List.take_add,
      List.drop_drop]

/-! EXTRACT_BYTE along a walk. -/

/-- EXTRACT_BYTE comes to the end of a walk whose boundary edges, but for the first, lie before the command start. -/
theorem State.extractByte_of_walk (src : Option Byte) {s u : State} {ps bs : List Nat} {j : Nat}
    (hwalk : State.bitWalk (j + 1) s = some (ps, bs, u))
    (hbefore : ∀ b ∈ bs.tail, s.cmdStartValid = true → b < s.cmdStartSample) (hj : j < s.unitCycles) :
    ∃ v, s.extractByte src = State.finishPass src (7 - j) (bs.getD j 0) (s.sampled u.clk u.dat ps v) ∧
      State.unitWalk src (j + 1) { s with dacc := 0, dnb := 0 } = some (ps, bs, s.sampled u.clk u.dat ps v) := by
  obtain ⟨u', hwalk', hclk, hdat⟩ := State.unitWalk_of_same_cursors (src' := src) (s := s)
    (s' := { s with dacc := 0, dnb := 0 }) rfl rfl rfl (State.unitWalk_none (j + 1) s ▸ hwalk)
  obtain ⟨hframe, -, -⟩ := State.unitWalk_frame hwalk'
  obtain ⟨hlength, -⟩ := State.unitWalk_order hwalk'
  obtain ⟨hunit, hpos⟩ := State.unitCycles_mul_nDat hj
  have hsampled : u' = s.sampled u.clk u.dat ps u'.dacc := by
    rw [State.sampled, hlength]
    rw [hclk, hdat] at hframe
    exact hframe.trans (by simp [State.nDat])
  have hroom : j * s.nDat < 8 := by
    rw [← hunit]
    exact Nat.mul_lt_mul_of_pos_right hj hpos
  have hfuel : 7 - j + j + 1 = 8 := by
    have : j * 1 ≤ j * s.nDat := Nat.mul_le_mul_left j hpos
    omega
  have hpasses := State.extractPasses_of_walk (fuel := 7 - j) hwalk' hbefore (by simpa [State.nDat] using hroom)
  rw [hfuel] at hpasses
  exact ⟨u'.dacc, hsampled ▸ hpasses, hsampled ▸ hwalk'⟩

theorem State.extractByte_of_sampling_walk {s u : State} {ps bs : List Nat} {j : Nat} (hwf : s.cursorsWf = true)
    (haligned : s.dataAligned = true) (hwalk : State.bitWalk (j + 1) s = some (ps, bs, u))
    (hbefore : ∀ b ∈ bs.tail, s.cmdStartValid = true → b < s.cmdStartSample) (hj : j < s.unitCycles) :
    s.extractByte none =
      State.finishPass none (7 - j) (bs.getD j 0) (s.sampled u.clk u.dat ps (s.partialByte ps)) := by
  obtain ⟨v, hextract, hwalk'⟩ := State.extractByte_of_walk none hwalk hbefore hj
  have hv : v = s.partialByte ps :=
    State.unitWalk_none_dacc (s := { s with dacc := 0, dnb := 0 }) hwf haligned hwalk'
  rw [hextract, hv]

theorem State.extractByte_of_unit_walk (d : Byte) {s u : State} {ps bs : List Nat} {j : Nat}
    (hwalk : State.bitWalk (j + 1) s = some (ps, bs, u))
    (hbefore : ∀ b ∈ bs.tail, s.cmdStartValid = true → b < s.cmdStartSample) (hj : j + 1 = s.unitCycles) :
    s.extractByte (some d) = State.finishPass (some d) (7 - j) (bs.getD j 0) (s.sampled u.clk u.dat ps d) := by
  obtain ⟨v, hextract, hwalk'⟩ := State.extractByte_of_walk (some d) hwalk hbefore (by omega)
  have hv : v = d := by
    have hdacc := State.unitWalk_some_dacc (i := 0) hwalk' (by simp)
      (show 0 + (j + 1) ≤ s.unitCycles by omega)
    have hall : (j + 1) * s.nDat = 8 := by
      rw [hj, (State.unitCycles_mul_nDat (show j < s.unitCycles by omega)).1]
    have hbits : v = (((bitsOf d).drop (0 * s.nDat)).take ((j + 1) * s.nDat)).foldl shl1 0 := hdacc
    rw [hbits, hall, Nat.zero_mul, List.drop_zero, List.take_of_length_le (bitsOf_length d).le, foldl_shl1_bitsOf,
      BitVec.setWidth_eq]
  rw [hextract, hv]

/-! Where a walk leaves the cursors, and which boundary edges lie before the command start. -/

section
variable {s u : State} {ps bs : List Nat} {j : Nat}

theorem State.bitWalk_frame (hwalk : State.bitWalk j s = some (ps, bs, u)) :
    u = { s with clk := u.clk, dat := u.dat, dacc := u.dacc, dnb := u.dnb, out := u.out } ∧ s.clk.Moved u.clk ∧
      s.dat.Moved u.dat := by
  obtain ⟨hframe, hmoved⟩ := State.unitWalk_frame (State.unitWalk_none j s ▸ hwalk)
  refine ⟨?_, hmoved⟩
  rw [hframe]

theorem State.bitWalk_keeps (hwf : s.cursorsWf = true) (haligned : s.dataAligned = true)
    (hwalk : State.bitWalk j s = some (ps, bs, u)) : u.cursorsWf = true ∧ u.dataAligned = true :=
  State.unitWalk_keeps hwf haligned (State.unitWalk_none j s ▸ hwalk)

theorem State.bitWalk_length (hwalk : State.bitWalk j s = some (ps, bs, u)) : ps.length = j :=
  (State.unitWalk_order (State.unitWalk_none j s ▸ hwalk)).1

/-- The next clock edge lies beyond every boundary edge: if it is before the command start, so are they. -/
theorem State.boundary_lt_of_notDue (hwalk : State.bitWalk j s = some (ps, bs, u)) (h : s.notDue u = true) :
    ∀ b ∈ bs, s.cmdStartValid = true → b < s.cmdStartSample := by
  obtain ⟨-, -, -, hbetween⟩ := State.unitWalk_order (State.unitWalk_none j s ▸ hwalk)
  intro b hb hvalid
  cases hpeek : u.clk.peek with
  | error x => simp [State.notDue, hvalid, hpeek] at h
  | ok q =>
    have hq : q < s.cmdStartSample := by simpa [State.notDue, hvalid, hpeek] using h
    obtain ⟨qs, hqs⟩ := Cursor.peek_ok.1 hpeek
    have := (Cursor.ahead_cons hqs).2
    have := (hbetween b hb).2
    omega

/-- The boundary edges ascend: if the last one is before the command start, so are the others. -/
theorem State.boundary_lt_of_last (hwalk : State.bitWalk (j + 1) s = some (ps, bs, u))
    (h : j = 0 ∨ bs.getD j 0 < s.cmdStartSample) : ∀ b ∈ bs.tail, s.cmdStartValid = true → b < s.cmdStartSample := by
  obtain ⟨-, hlength, hsorted, -⟩ := State.unitWalk_order (State.unitWalk_none (j + 1) s ▸ hwalk)
  intro b hb hvalid
  rcases h with rfl | hlast
  · have hnil : bs.tail = [] := List.eq_nil_of_length_eq_zero (by simp [hlength])
    rw [hnil] at hb
    exact absurd hb List.not_mem_nil
  · obtain ⟨i, hi, rfl⟩ := List.mem_iff_getElem.1 (List.mem_of_mem_tail hb)
    rw [List.getD_eq_getElem _ _ (by omega)] at hlast
    rcases Nat.lt_or_ge i j with hij | hij
    · exact (List.pairwise_iff_getElem.1 hsorted i j hi (by omega) hij).trans hlast
    · obtain rfl : i = j := by omega
      exact hlast

theorem State.partialByte_of_reads {b : Byte} (h : s.reads ps b = true) : s.partialByte ps = b := by
  rw [State.partialByte, ← eq_of_beq h, foldl_shl1_bitsOf, BitVec.setWidth_eq]

end

theorem DataSet.map_placed_of_moved {d e : DataSet Cursor} (h : d.Moved e) (q : Nat) :
    e.map (fun c => Cursor.placed c.line q) = d.map (fun c => .placed c.line q) := by
  have hlines := congrArg (fun l => l.map (fun l => Cursor.placed l q)) h.lines_eq
  rw [DataSet.map_map, DataSet.map_map] at hlines
  exact hlines

theorem State.dataAt_of_moved {s t : State} (hclk : s.clk.Moved t.clk) (hdat : s.dat.Moved t.dat) (q : Nat) :
    t.dataAt q = { t with clk := .placed s.clk.line q, dat := s.dat.map (fun d => .placed d.line q) } := by
  rw [State.dataAt, hclk.1, DataSet.map_placed_of_moved hdat]

/-! A byte that goes on. -/

/-- What EXTRACT_BYTE leaves of a walk that completes the byte `v`, but for the phase: the walk, and the byte emitted. -/
def State.emitted (s : State) (clk : Cursor) (dat : DataSet Cursor) (ps : List Nat) (boundary : Nat) (v : Byte) : State :=
  { s with
    dacc := v, dnb := 8, byteStart := boundary, unitCount := s.unitCount + 1
    packetOpen := s.packetOpen || !s.config.suppressDataFrames, clk := clk, dat := dat
    out := s.out ++ sampleMarkers ps
      ++ shown s.config.suppressDataFrames (.upTo .dataByte s.byteStart boundary (v.setWidth 64) 0 0) ++ [.progress clk.pos] }

section
variable {s : State} {clk : Cursor} {dat : DataSet Cursor} {ps : List Nat} {v : Byte} {j : Nat}

theorem State.sampled_dnb_of_byte (hlength : ps.length = j + 1) (hj : j + 1 = s.unitCycles) :
    (s.sampled clk dat ps v).dnb = 8 := by
  rw [State.sampled, hlength, hj, (State.unitCycles_mul_nDat (show j < s.unitCycles by omega)).1]
  rfl

theorem State.sampled_dnb_of_bits (hlength : ps.length = j + 1) (hj : j + 1 < s.unitCycles) :
    (s.sampled clk dat ps v).dnb ≠ 8 := by
  obtain ⟨hunit, hpos⟩ := State.unitCycles_mul_nDat hj
  have hlt : (j + 1) * s.nDat < 8 := by
    rw [← hunit]
    exact Nat.mul_lt_mul_of_pos_right hj hpos
  intro h
  have hnat := congrArg BitVec.toNat h
  rw [State.sampled, hlength, BitVec.toNat_ofNat, Nat.mod_eq_of_lt (by omega)] at hnat
  have : (8 : BitVec 4).toNat = 8 := rfl
  omega

theorem State.sampled_completeByte (boundary : Nat) (hlength : ps.length = j + 1) (hj : j + 1 = s.unitCycles) :
    (s.sampled clk dat ps v).completeByte boundary = s.emitted clk dat ps boundary v := by
  rw [State.completeByte_eq, State.emitted, State.sampled_dnb_of_byte hlength hj]
  rfl

/-- The row of a walk that completes a byte before the 514th, with no interruption due. -/
theorem State.read_of_byte {src : Option Byte} {fuel boundary : Nat}
    (hextract : s.extractByte src = State.finishPass src fuel boundary (s.sampled clk dat ps v))
    (hlength : ps.length = j + 1) (hj : j + 1 = s.unitCycles)
    (hnotDue : (s.sampled clk dat ps v).notDue (s.sampled clk dat ps v) = true) (hcount : s.unitCount ≠ 513) :
    s.read src = { s.emitted clk dat ps boundary v with phase := .readData } := by
  have hfinish := State.finishPass_of_byte (src := src) (fuel := fuel) (boundary := boundary)
    (State.interruptionTest_of_notDue hnotDue) (State.sampled_dnb_of_byte hlength hj)
  rw [if_neg Bool.false_ne_true, if_neg (show (s.sampled clk dat ps v).unitCount ≠ 513 from hcount),
    State.sampled_completeByte boundary hlength hj] at hfinish
  rw [State.read, hextract, hfinish, Res.orTerminate_of_ok]

end

theorem State.dat_ne_absent {s : State} {j : Nat} (h : j < s.unitCycles) : s.dat ≠ .absent := by
  intro habsent
  simp [State.unitCycles, habsent] at h

/-- A walk over the bits of a byte with nothing due, whatever the number of lines. -/
theorem exec_extractByte_of_byte {sss : BitVec 3} {s u : State} {ps bs : List Nat} {b : Byte} {j : Nat}
    (hwf : s.cursorsWf = true) (haligned : s.dataAligned = true) (hj : j + 1 = s.unitCycles)
    (hwalk : State.bitWalk (j + 1) s = some (ps, bs, u)) (hreads : s.reads ps b = true) (hnotDue : s.notDue u = true)
    (hcount : s.unitCount ≠ 513) :
    exec (.extractByte sss) s = .next { s.emitted u.clk u.dat ps (bs.getD j 0) b with phase := .readData } := by
  have hlt : j < s.unitCycles := by omega
  have hextract := State.extractByte_of_sampling_walk hwf haligned hwalk
    (fun b hb => State.boundary_lt_of_notDue hwalk hnotDue b (List.mem_of_mem_tail hb)) hlt
  rw [State.partialByte_of_reads hreads] at hextract
  rw [exec_extractByte_of_line (State.dat_ne_absent hlt),
    State.read_of_byte hextract (State.bitWalk_length hwalk) hj hnotDue hcount]

/-- Settles O33, for one line. -/
theorem extractOneLineByte : Obligations.ExtractOneLineByte := by
  unfold Obligations.ExtractOneLineByte
  intro sss s u d0 ps bs b hdat hwf haligned hwalk hreads hnotDue hcount
  exact exec_extractByte_of_byte hwf haligned (by simp [State.unitCycles, hdat]) hwalk hreads hnotDue hcount

/-- Settles O34, for four lines. -/
theorem extractFourLineByte : Obligations.ExtractFourLineByte := by
  unfold Obligations.ExtractFourLineByte
  intro sss s u d0 d1 d2 d3 ps bs b hdat hwf haligned hwalk hreads hnotDue hcount
  exact exec_extractByte_of_byte hwf haligned (by simp [State.unitCycles, hdat]) hwalk hreads hnotDue hcount

theorem exec_data1_of_line {d : Byte} {s : State} {d0 : Cursor} (h : s.dat = .one d0) :
    exec (.data1 d) s = .next (s.read (some d)) := by
  change execData1 d s = _
  simp only [execData1, h]

theorem exec_data4_of_lines {d : Byte} {s : State} {d0 d1 d2 d3 : Cursor} (h : s.dat = .four d0 d1 d2 d3) :
    exec (.data4 d) s = .next (s.read (some d)) := by
  change execData4 d s = _
  simp only [execData4, h]

/-- Settles O40: the walk packs the unit, and the rest is the row of a completed byte. -/
theorem dataUnitsEmitTheirByte : Obligations.DataUnitsEmitTheirByte := by
  unfold Obligations.DataUnitsEmitTheirByte
  intro d i k s u ps bs hrow hwalk hnotDue hcount
  obtain ⟨hk, hexec⟩ : k + 1 = s.unitCycles ∧ exec i s = .next (s.read (some d)) := by
    rcases hrow with ⟨rfl, rfl, d0, hdat⟩ | ⟨rfl, rfl, d0, d1, d2, d3, hdat⟩
    · exact ⟨by simp [State.unitCycles, hdat], exec_data1_of_line hdat⟩
    · exact ⟨by simp [State.unitCycles, hdat], exec_data4_of_lines hdat⟩
  have hextract := State.extractByte_of_unit_walk d hwalk
    (fun b hb => State.boundary_lt_of_notDue hwalk hnotDue b (List.mem_of_mem_tail hb)) hk
  rw [hexec, State.read_of_byte hextract (State.bitWalk_length hwalk) hk hnotDue hcount]
  rfl

/-! A byte that does not go on: an interruption, the end of a block, the end of the capture. -/

theorem State.afterData_of_valid {s : State} (h : s.cmdStartValid = true) :
    s.afterData = { s with phase := .analyzeCommand } := by
  rw [State.afterData, if_pos h]

theorem State.afterData_of_closed {s : State} (h : s.packetOpen = false) :
    s.afterData = { s with
      phase := if s.cmdStartValid then .analyzeCommand else .terminated
      out := s.out ++ if s.cmdStartValid then [] else [.terminated .exhausted] } := by
  unfold State.afterData
  split
  · rw [List.append_nil]
  · rw [State.terminate_eq, h]
    rfl

theorem State.read_of_interrupted {src : Option Byte} {s t : State} (h : s.extractByte src = .ok .interrupted t)
    (hvalid : t.cmdStartValid = true) : s.read src = { t with phase := .analyzeCommand } := by
  rw [State.read, h]
  exact State.afterData_of_valid hvalid

theorem State.due_valid {s u : State} (h : s.due u = true) : s.cmdStartValid = true := by
  simp only [State.due, Bool.and_eq_true] at h
  exact h.1.1

/-- Settles O35: the passes before the interruption go on, and the last one answers interrupted with the byte not complete. -/
theorem interruptionDropsAPartialByte : Obligations.InterruptionDropsAPartialByte := by
  unfold Obligations.InterruptionDropsAPartialByte
  intro sss s u ps bs k hwf haligned hk hwalk hdue hfirst
  have hextract := State.extractByte_of_sampling_walk hwf haligned hwalk (State.boundary_lt_of_last hwalk hfirst)
    (by omega)
  have hlength := State.bitWalk_length hwalk
  have hfinish := State.finishPass_of_bits (src := none) (fuel := 7 - k) (boundary := bs.getD k 0)
    (State.interruptionTest_of_due (s := s.sampled u.clk u.dat ps (s.partialByte ps)) hdue)
    (State.sampled_dnb_of_bits hlength hk)
  rw [if_pos rfl, State.closePacket_eq] at hfinish
  rw [exec_extractByte_of_line (State.dat_ne_absent hk),
    State.read_of_interrupted (hextract.trans hfinish) (State.due_valid hdue), State.sampled, hlength]
  rfl

/-- Settles O36: the last pass completes the byte before it answers interrupted. -/
theorem interruptionAfterACompleteByte : Obligations.InterruptionAfterACompleteByte := by
  unfold Obligations.InterruptionAfterACompleteByte
  intro sss s u ps bs b k hwf haligned hk hwalk hreads hdue hfirst
  have hextract := State.extractByte_of_sampling_walk hwf haligned hwalk (State.boundary_lt_of_last hwalk (.inr hfirst))
    (by omega)
  have hlength := State.bitWalk_length hwalk
  have hfinish := State.finishPass_of_byte (src := none) (fuel := 7 - k) (boundary := bs.getD k 0)
    (State.interruptionTest_of_due (s := s.sampled u.clk u.dat ps (s.partialByte ps)) hdue)
    (State.sampled_dnb_of_byte hlength hk)
  rw [if_pos rfl, State.closePacket_eq, State.sampled_completeByte _ hlength hk, State.partialByte_of_reads hreads]
    at hfinish
  rw [State.partialByte_of_reads hreads] at hextract
  rw [exec_extractByte_of_line (State.dat_ne_absent (j := k) (by omega)),
    State.read_of_interrupted (hextract.trans hfinish) (State.due_valid hdue)]
  rfl

/-- The state in which the race at a block end begins: the 514th byte emitted, the packet closed. -/
def State.blockEnded (s : State) (clk : Cursor) (dat : DataSet Cursor) (ps : List Nat) (boundary : Nat) (v : Byte) : State :=
  { s.emitted clk dat ps boundary v with
    packetOpen := false
    out := (s.emitted clk dat ps boundary v).out ++ committed (s.packetOpen || !s.config.suppressDataFrames)
      ++ [.progress clk.pos] }

/-- A walk over the bits of the 514th byte, with nothing due, comes to the race from where it left the cursors. -/
theorem State.extractByte_of_block {s u : State} {ps bs : List Nat} {b : Byte} {k : Nat}
    (hwf : s.cursorsWf = true) (haligned : s.dataAligned = true) (hk : k + 1 = s.unitCycles)
    (hwalk : State.bitWalk (k + 1) s = some (ps, bs, u)) (hreads : s.reads ps b = true) (hnotDue : s.notDue u = true)
    (hcount : s.unitCount = 513) :
    s.extractByte none = (s.blockEnded u.clk u.dat ps (bs.getD k 0) b).arbitrate.andThen fun a t =>
      match a with
      | .dataPresent => t.alignData.andThen fun _ t => .ok .blockDoneMore t
      | .noData => .ok .blockDoneNoMore t := by
  have hextract := State.extractByte_of_sampling_walk hwf haligned hwalk
    (fun b hb => State.boundary_lt_of_notDue hwalk hnotDue b (List.mem_of_mem_tail hb)) (by omega)
  have hlength := State.bitWalk_length hwalk
  have hfinish := State.finishPass_of_byte (src := none) (fuel := 7 - k) (boundary := bs.getD k 0)
    (State.interruptionTest_of_notDue (s := s.sampled u.clk u.dat ps (s.partialByte ps)) hnotDue)
    (State.sampled_dnb_of_byte hlength hk)
  rw [if_neg Bool.false_ne_true,
    if_pos (show (s.sampled u.clk u.dat ps (s.partialByte ps)).unitCount = 513 from hcount),
    State.sampled_completeByte _ hlength hk, State.partialByte_of_reads hreads, State.endBlock, State.closePacket_eq]
    at hfinish
  rw [hextract, State.partialByte_of_reads hreads, hfinish]
  rfl

section
variable {s u : State} {ps bs : List Nat} {j boundary : Nat} {b : Byte}

/-- The race at a block end starts inside the capture, with the data cursors at the clock. -/
theorem State.blockEnded_keeps (hwf : s.cursorsWf = true) (haligned : s.dataAligned = true)
    (hwalk : State.bitWalk j s = some (ps, bs, u)) :
    (s.blockEnded u.clk u.dat ps boundary b).cursorsWf = true ∧
      (s.blockEnded u.clk u.dat ps boundary b).dataAligned = true := by
  obtain ⟨hframe, -⟩ := State.bitWalk_frame hwalk
  have hkeeps := State.bitWalk_keeps hwf haligned hwalk
  rw [hframe] at hkeeps
  exact hkeeps

/-- Where the race leaves the cursors, said of the lines of the state at the start. -/
theorem State.blockEnded_dataAt (hwalk : State.bitWalk j s = some (ps, bs, u)) (c : Nat) :
    (s.blockEnded u.clk u.dat ps boundary b).dataAt c = { s.blockEnded u.clk u.dat ps boundary b with
      clk := .placed s.clk.line c, dat := s.dat.map (fun d => .placed d.line c) } := by
  obtain ⟨-, hclk, hdat⟩ := State.bitWalk_frame hwalk
  exact State.dataAt_of_moved (t := s.blockEnded u.clk u.dat ps boundary b) hclk hdat c

end

/-- Settles O37: the race at the block end finds no data. -/
theorem blockEndsWithNoFurtherData : Obligations.BlockEndsWithNoFurtherData := by
  unfold Obligations.BlockEndsWithNoFurtherData
  intro sss s u ps bs b k c hwf haligned hk hwalk hreads hnotDue hcount hnone hc
  obtain ⟨hframe, -⟩ := State.bitWalk_frame hwalk
  obtain ⟨hpos, hstart⟩ := u.lastPassed_bounds
  have hlast : u.lastPassed = (s.blockEnded u.clk u.dat ps (bs.getD k 0) b).lastPassed := by rw [hframe]; rfl
  have hnone' : (s.blockEnded u.clk u.dat ps (bs.getD k 0) b).noDataFall = true := by rw [hframe] at hnone; exact hnone
  rw [hframe] at hstart
  obtain ⟨hwf', haligned'⟩ := State.blockEnded_keeps (b := b) (boundary := bs.getD k 0) hwf haligned hwalk
  have harb := State.arbitrate_of_noDataFall hwf' haligned' hnone'
  rw [← hlast, ← hc, State.blockEnded_dataAt hwalk] at harb
  subst hc
  refine ⟨hpos, ?_, ?_⟩
  · rw [hframe]
    exact hstart
  rw [exec_extractByte_of_line (State.dat_ne_absent (j := k) (by omega)), State.read,
    State.extractByte_of_block hwf haligned hk hwalk hreads hnotDue hcount, harb, Res.andThen_of_ok,
    Res.orTerminate_of_ok]
  refine (congrArg Host.Outcome.next (State.afterData_of_closed rfl)).trans ?_
  rw [State.blockEnded, State.emitted, hcount]
  rfl

/-- Settles O38: the race at the block end finds a data start, and the clock is aligned to it. -/
theorem blockEndsWithFurtherData : Obligations.BlockEndsWithFurtherData := by
  unfold Obligations.BlockEndsWithFurtherData
  intro sss s u ps bs b k p c hwf haligned hk hwalk hreads hnotDue hcount hfall hbound halignedAt
  obtain ⟨hframe, -⟩ := State.bitWalk_frame hwalk
  obtain ⟨hwf', haligned'⟩ := State.blockEnded_keeps (b := b) (boundary := bs.getD k 0) hwf haligned hwalk
  rw [hframe] at hfall halignedAt
  obtain ⟨t, harb, halign, -⟩ := State.arbitrate_alignData_of_alignedAt hwf' haligned' hfall hbound halignedAt
  rw [State.blockEnded_dataAt hwalk] at halign
  rw [exec_extractByte_of_line (State.dat_ne_absent (j := k) (by omega)), State.read,
    State.extractByte_of_block hwf haligned hk hwalk hreads hnotDue hcount, harb, Res.andThen_of_ok]
  simp only
  rw [halign]
  rfl

/-! The end of the capture (R138). -/

theorem State.read_of_signal {src : Option Byte} {s t : State} {x : Signal} (h : s.extractByte src = .signal x t) :
    s.read src = { t with
      phase := .terminated, packetOpen := false, out := t.out ++ terminationEvents t.packetOpen x.reason } := by
  rw [State.read, h]
  exact State.terminate_eq _ _

section
variable {s u v : State} {ps bs : List Nat} {j : Nat} {x : Signal}

/-- While nothing is due, the loop comes to the next per-bit step of the byte. -/
theorem State.extractByte_of_next_bit (hwf : s.cursorsWf = true) (haligned : s.dataAligned = true) (hj : j < s.unitCycles)
    (hwalk : State.bitWalk j s = some (ps, bs, u)) (hnotDue : j = 0 ∨ s.notDue u = true) :
    ∃ fuel, s.extractByte none =
      State.extractPasses none (fuel + 1) (s.sampled u.clk u.dat ps (s.partialByte ps)) := by
  cases j with
  | zero =>
    obtain ⟨rfl, -, rfl⟩ := State.unitWalk_zero.1 (State.unitWalk_none 0 s ▸ hwalk)
    refine ⟨7, ?_⟩
    simp [State.extractByte, State.sampled, State.partialByte, sampleMarkers]
  | succ j =>
    have hnotDue : s.notDue u = true := hnotDue.resolve_left (Nat.succ_ne_zero j)
    obtain ⟨hunit, hpos⟩ := State.unitCycles_mul_nDat hj
    have hle : s.unitCycles ≤ 8 := by
      rw [← hunit]
      exact Nat.le_mul_of_pos_right _ hpos
    refine ⟨6 - j, ?_⟩
    rw [State.extractByte_of_sampling_walk hwf haligned hwalk
        (fun b hb => State.boundary_lt_of_notDue hwalk hnotDue b (List.mem_of_mem_tail hb)) (by omega),
      State.finishPass_of_bits
        (State.interruptionTest_of_notDue (s := s.sampled u.clk u.dat ps (s.partialByte ps)) hnotDue)
        (State.sampled_dnb_of_bits (State.bitWalk_length hwalk) hj),
      if_neg Bool.false_ne_true, show 7 - j = 6 - j + 1 by omega]

/-- A per-bit step that signals after a walk has read and packed its sample. -/
theorem State.bitMoved_sampled (hwf : s.cursorsWf = true) (haligned : s.dataAligned = true)
    (hwalk : State.bitWalk j s = some (ps, bs, u)) (clk : Cursor) (dat : DataSet Cursor) :
    (s.sampled u.clk u.dat ps (s.partialByte ps)).bitMoved none clk dat =
      s.sampled clk dat (ps ++ [u.clk.pos]) (s.partialByte (ps ++ [u.clk.pos])) := by
  obtain ⟨hframe, -, hmoved⟩ := State.bitWalk_frame hwalk
  obtain ⟨hwf', haligned'⟩ := State.bitWalk_keeps hwf haligned hwalk
  have hcount : (s.sampled u.clk u.dat ps (s.partialByte ps)).nDat = s.nDat := State.nDat_of_moved hmoved
  have hgroup : (s.sampled u.clk u.dat ps (s.partialByte ps)).groupBits none = s.groupAt u.clk.pos := by
    have hsampling := State.sampling_of_aligned hwf' haligned'
    exact (State.groupBits_of_sampling (s := s.sampled u.clk u.dat ps (s.partialByte ps)) hsampling).trans
      (State.groupAt_of_moved hmoved u.clk.pos)
  rw [State.bitMoved, hgroup, hcount]
  simp only [State.sampled, State.partialByte, sampleMarkers, List.length_append, List.length_singleton, Nat.succ_mul,
    BitVec.ofNat_add, List.flatMap_append, List.flatMap_singleton, List.foldl_append, List.map_append, List.map_singleton,
    List.append_assoc]

theorem State.extractByte_of_bit_signal (hwf : s.cursorsWf = true) (haligned : s.dataAligned = true)
    (hj : j < s.unitCycles) (hwalk : State.bitWalk j s = some (ps, bs, u)) (hnotDue : j = 0 ∨ s.notDue u = true)
    (hstep : u.bitStep none = .signal x v) :
    s.extractByte none =
      .signal x (s.sampled v.clk v.dat (ps ++ [u.clk.pos]) (s.partialByte (ps ++ [u.clk.pos]))) := by
  obtain ⟨fuel, hextract⟩ := State.extractByte_of_next_bit hwf haligned hj hwalk hnotDue
  obtain ⟨hframe, -⟩ := State.bitWalk_frame hwalk
  have hn : s.nSamples = u.nSamples := by rw [hframe]
  have hsignal := State.bitStep_signal_of_same_cursors (s := u) (s' := s.sampled u.clk u.dat ps (s.partialByte ps)) (src' := none)
    rfl rfl hn hstep
  rw [hextract, State.extractPasses_succ, hsignal, Res.andThen_of_signal,
    State.bitMoved_sampled hwf haligned hwalk]

end

/-- Settles O39: where the clock ends, in a per-bit step, at the interruption test, and in the alignment after ARBITRATE or
after a block. -/
theorem endOfStreamWhileReadingData : Obligations.EndOfStreamWhileReadingData := by
  unfold Obligations.EndOfStreamWhileReadingData
  intro sss s u v ps bs j p b hwf haligned
  refine ⟨fun hj hwalk hnotDue hstep => ?_, fun hj hwalk hvalid hfirst hend => ?_, fun hfall hbound hunalignable => ?_,
    fun hj hwalk hreads hnotDue hcount hfall hbound hunalignable => ?_⟩
  · have hlength := State.bitWalk_length hwalk
    rw [exec_extractByte_of_line (State.dat_ne_absent hj),
      State.read_of_signal (State.extractByte_of_bit_signal hwf haligned hj hwalk hnotDue hstep), State.sampled,
      List.length_append, List.length_singleton, hlength]
    rfl
  · have hextract := State.extractByte_of_sampling_walk hwf haligned hwalk (State.boundary_lt_of_last hwalk hfirst) hj
    rw [State.finishPass_of_noEdge (s := s.sampled u.clk u.dat ps (s.partialByte ps)) hvalid hend] at hextract
    rw [exec_extractByte_of_line (State.dat_ne_absent hj), State.read_of_signal hextract, State.sampled,
      State.bitWalk_length hwalk]
    rfl
  · obtain ⟨t, harb, halign⟩ := State.arbitrate_alignData_of_unalignable hwf haligned hfall hbound hunalignable
    change Host.Outcome.next s.iterateArbitrate = _
    rw [State.iterateArbitrate, harb, Res.orTerminate_of_ok]
    simp only
    rw [halign, Res.orTerminate_of_signal, State.terminate_eq]
    rfl
  · obtain ⟨hframe, hclk, hdat⟩ := State.bitWalk_frame hwalk
    obtain ⟨hwf', haligned'⟩ := State.blockEnded_keeps (b := b) (boundary := bs.getD j 0) hwf haligned hwalk
    rw [hframe] at hfall hunalignable
    obtain ⟨t, harb, halign⟩ := State.arbitrate_alignData_of_unalignable hwf' haligned' hfall hbound hunalignable
    have hextract := State.extractByte_of_block hwf haligned hj hwalk hreads hnotDue hcount
    rw [harb, Res.andThen_of_ok] at hextract
    simp only at hextract
    rw [halign, Res.andThen_of_signal, State.blockEnded_dataAt hwalk] at hextract
    have hline : (s.blockEnded u.clk u.dat ps (bs.getD j 0) b).clk.line = s.clk.line := hclk.1
    rw [exec_extractByte_of_line (State.dat_ne_absent (j := j) (by omega)), State.read_of_signal hextract, hline,
      State.blockEnded, State.emitted, hcount]
    rfl

/-! A unit given whole and the same unit on the lines. -/

/-- From here on, after the bits of `k` per-bit steps, whichever bits the extractor comes to sample are the unit's. -/
def State.agrees (d : Byte) (k : Nat) (s : State) : Prop :=
  ∀ i ps bs t, k + i < s.unitCycles → State.bitWalk i s = some (ps, bs, t) →
    ∀ w : State, w.dat = t.dat → w.dnb = BitVec.ofNat 4 ((k + i) * s.nDat) → w.groupBits (some d) = w.groupBits none

theorem State.agrees_of_carriesUnit {d : Byte} {s : State} (h : s.carriesUnit d = true) : s.agrees d 0 := by
  intro i ps bs t hi hwalk w hdat hdnb
  have hcarries := List.all_eq_true.1 h i (List.mem_range.2 (by omega))
  rw [hwalk] at hcarries
  simp only at hcarries
  obtain ⟨-, -, hmoved⟩ := State.bitWalk_frame hwalk
  unfold State.groupBits
  unfold State.nDat at hdnb
  rw [Nat.zero_add] at hdnb
  rw [hdat]
  generalize s.dat = sd at hmoved hdnb
  generalize t.dat = td at hmoved hcarries
  cases hmoved with
  | absent => rfl
  | one hm =>
    change w.dnb = BitVec.ofNat 4 (i * 1) at hdnb
    rw [Nat.mul_one] at hdnb
    have hbit := eq_of_beq hcarries
    change [unitBit d w.dnb] = [_]
    rw [hdnb, ← hbit]
    rfl
  | four h0 h1 h2 h3 =>
    change w.dnb = BitVec.ofNat 4 (i * 4) at hdnb
    rw [Nat.mul_comm] at hdnb
    have hnibble := eq_of_beq hcarries
    change bitsOf (unitNibble d w.dnb) = _
    rw [hdnb, ← hnibble, bitsOf_nibbleOf]
    rfl

theorem State.agrees_succ {d : Byte} {k boundary : Nat} {s t : State} (h : s.agrees d k)
    (hstep : s.bitStep none = .ok boundary t) : t.agrees d (k + 1) := by
  obtain ⟨-, -, -, -, -, hmoved⟩ := State.bitStep_edges hstep
  intro i ps bs v hi hwalk w hdat hdnb
  rw [State.unitCycles_of_moved hmoved] at hi
  rw [State.nDat_of_moved hmoved] at hdnb
  have hwalk' : State.bitWalk (i + 1) s = some (s.clk.pos :: ps, boundary :: bs, v) := by
    rw [← State.unitWalk_none] at hwalk ⊢
    exact State.unitWalk_succ.2 ⟨boundary, t, ps, bs, hstep, hwalk, rfl, rfl⟩
  exact h (i + 1) _ _ v (by omega) hwalk' w hdat (by rw [hdnb]; congr 2; omega)

theorem State.interruptionTest_keeps {s t : State} {b : Bool} (h : s.interruptionTest = .ok b t) :
    t.clk = s.clk ∧ t.dat = s.dat ∧ t.nSamples = s.nSamples ∧ t.dnb = s.dnb := by
  rcases State.interruptionTest_ok.1 h with
    ⟨-, -, rfl⟩ | ⟨-, q, -, ⟨-, -, rfl⟩ | ⟨-, -, -, rfl⟩ | ⟨-, -, -, a, hlocate⟩⟩
  · exact ⟨rfl, rfl, rfl, rfl⟩
  · exact ⟨rfl, rfl, rfl, rfl⟩
  · exact ⟨rfl, rfl, rfl, rfl⟩
  · obtain ⟨m, p, v, hframe, -⟩ := s.locate_frame
    rw [hlocate] at hframe
    have ht : t = _ := hframe
    rw [ht]
    exact ⟨rfl, rfl, rfl, rfl⟩

/-- Where the lines carry the unit, a pass with it and a pass that samples are the same; so is the loop. -/
theorem State.extractPasses_of_agrees {d : Byte} {fuel k : Nat} {s v : State} (h : s.agrees d k) (hclk : v.clk = s.clk)
    (hdat : v.dat = s.dat) (hn : v.nSamples = s.nSamples) (hdnb : v.dnb = BitVec.ofNat 4 (k * s.nDat))
    (hk : k < s.unitCycles) : State.extractPasses (some d) fuel v = State.extractPasses none fuel v := by
  induction fuel generalizing k s v with
  | zero => rfl
  | succ fuel ih =>
    have hgroup : v.groupBits (some d) = v.groupBits none := h 0 [] [] s (by omega) rfl v hdat hdnb
    have hsame : v.bitStep (some d) = v.bitStep none := by
      rw [State.bitStep_eq, State.bitStep_eq, State.bitMoved, State.bitMoved, hgroup]
    rw [State.extractPasses_succ, State.extractPasses_succ, hsame]
    cases hstep : v.bitStep none with
    | signal x t => rfl
    | ok boundary t =>
      have hstep' := State.bitStep_of_same_cursors (src' := none) hclk.symm hdat.symm hn.symm hstep
      obtain ⟨ht, -, -, -, -, hmoved⟩ := State.bitStep_edges hstep
      have hcount : v.nDat = s.nDat := by rw [State.nDat, hdat]; rfl
      have htdnb : t.dnb = BitVec.ofNat 4 ((k + 1) * s.nDat) := by
        rw [ht, Nat.succ_mul, BitVec.ofNat_add, ← hdnb, ← hcount]; rfl
      have htn : t.nSamples = s.nSamples := by rw [ht]; exact hn
      rw [Res.andThen_of_ok, Res.andThen_of_ok]
      cases htest : t.interruptionTest with
      | signal x w => rw [State.finishPass, State.finishPass, htest]; rfl
      | ok interrupted w =>
        by_cases hbyte : w.dnb = 8
        · rw [State.finishPass_of_byte htest hbyte, State.finishPass_of_byte htest hbyte]
        · rw [State.finishPass_of_bits htest hbyte, State.finishPass_of_bits htest hbyte]
          obtain ⟨hclk', hdat', hn', hdnb'⟩ := State.interruptionTest_keeps htest
          have hk' : k + 1 ≠ s.unitCycles := by
            intro hlast
            apply hbyte
            rw [hdnb', htdnb, hlast, (State.unitCycles_mul_nDat hk).1]
            rfl
          have hmoved' : s.dat.Moved t.dat := hdat ▸ hmoved
          congr 1
          exact ih (State.agrees_succ h hstep') hclk' hdat' (hn'.trans htn)
            (hdnb'.trans (htdnb.trans (by rw [State.nDat_of_moved (t := s.bitMoved none t.clk t.dat) hmoved'])))
            (by rw [State.unitCycles_of_moved (t := s.bitMoved none t.clk t.dat) hmoved']; omega)

/-- Settles O41: the loop with the unit and the loop that samples take the same bits at every pass. -/
theorem dataUnitIsTheSampledByte : Obligations.DataUnitIsTheSampledByte := by
  unfold Obligations.DataUnitIsTheSampledByte
  intro d sss s hcarries
  have hread : 0 < s.unitCycles → s.read (some d) = s.read none := by
    intro hpos
    have hextract : s.extractByte (some d) = s.extractByte none :=
      State.extractPasses_of_agrees (fuel := 8) (v := { s with dacc := 0, dnb := 0 })
        (State.agrees_of_carriesUnit hcarries) rfl rfl rfl (by simp) hpos
    rw [State.read, State.read, hextract]
  refine ⟨fun d0 hdat => ?_, fun d0 d1 d2 d3 hdat => ?_⟩
  · rw [exec_extractByte_of_line (by simp [hdat]), ← hread (by simp [State.unitCycles, hdat])]
    exact exec_data1_of_line hdat
  · rw [exec_extractByte_of_line (by simp [hdat]), ← hread (by simp [State.unitCycles, hdat])]
    exact exec_data4_of_lines hdat

end Sys2Proof.Machine
end

section
/-! PROOFS. The exchange of a whole frame (spec/44_frame_state_machine.md, log 5): a field of several bits, and the walk of the
cursors along its cycles. -/

namespace Sys2Proof.Machine

/-! A field of several bits (R99 to R103): each bit is shifted in, and with the last one the field is complete. -/

/-- The sub-state is one that takes several bits. -/
def State.inField (s : State) : Bool :=
  match s.frameState with
  | .startBit => false
  | .direction => false
  | .commandField => true
  | .argumentField => true
  | .crc7 => true
  | .stop => false

/-- The next bit is the 64th of a long argument, which completes `hi` (R102). -/
def State.savesHigh (s : State) : Bool := s.frameState == .argumentField && s.respLong && s.nbits == 63

/-- The registers after one more bit of a field. -/
def State.shiftIn (s : State) (b : Bool) : State :=
  { s with
    acc := if s.savesHigh then 0 else shl1 s.acc b
    hi := if s.savesHigh then shl1 s.acc b else s.hi
    nbits := if s.frameState = .argumentField then s.nbits + 1 else s.nbits
    countdown := s.countdown - 1 }

/-- What a field does once its last bit is shifted in, in a cycle that ends at `e`. -/
def State.completeField (cls : Option FrameClass) (e : Nat) (s : State) : State :=
  match s.frameState with
  | .commandField =>
    s.completeCommand (cls.getD (s.classify (s.acc.setWidth 6))) { mid := 0, cycleEnd := e, bit := false }
  | .argumentField =>
    if s.respLong then
      { s with
        frameState := .stop, acc := shl1 s.acc false, fieldStart := e, packetOpen := true
        out := s.out ++ [.addFrame (.upTo .longArgument s.fieldStart e s.hi (shl1 s.acc false) 0)] }
    else
      { s with
        frameState := .crc7, acc := 0, countdown := 7, fieldStart := e, packetOpen := true
        out := s.out ++ [.addFrame (.upTo .argument s.fieldStart e ((s.acc.setWidth 32).setWidth 64) 0 0)] }
  | .crc7 =>
    { s with
      frameState := .stop, fieldStart := e, packetOpen := true
      out := s.out ++ [.addFrame (.upTo .crc7 s.fieldStart e ((s.acc.setWidth 7).setWidth 64) 0 0)] }
  | .startBit => s
  | .direction => s
  | .stop => s

/-- The action of a sub-state of several bits: shift in, and complete the field with the last bit. -/
theorem State.fsmAction_of_field {cls : Option FrameClass} {c : Cycle} {s : State} (hfield : s.inField = true) :
    s.fsmAction s.frameState cls c =
      (.goOn, if s.countdown = 1 then (s.shiftIn c.bit).completeField cls c.cycleEnd else s.shiftIn c.bit) := by
  have hdone : s.countdown = 1 → s.countdown - 1 = 0 := sub_eq_zero.2
  cases hf : s.frameState with
  | startBit | direction | stop => simp [State.inField, hf] at hfield
  | commandField =>
    have hshift : s.shiftIn c.bit = { s with acc := shl1 s.acc c.bit, countdown := s.countdown - 1 } := by
      simp [State.shiftIn, State.savesHigh, hf]
    rw [hshift]
    split
    · next hlast =>
      refine (State.commandFieldAction_of_last hlast).trans ?_
      simp only [State.completeField, hf, hdone hlast, State.completeCommand_eq]
      rfl
    · next hmore => exact State.commandFieldAction_of_not_last hmore
  | argumentField =>
    cases hlong : s.respLong with
    | false =>
      have hshift : s.shiftIn c.bit =
          { s with acc := shl1 s.acc c.bit, nbits := s.nbits + 1, countdown := s.countdown - 1 } := by
        simp [State.shiftIn, State.savesHigh, hf, hlong]
      rw [hshift]
      split
      · next hlast =>
        refine (State.fsmAction_argumentField_of_last hlong hlast).trans ?_
        simp [State.completeField, hf, hlong]
      · next hmore => exact State.fsmAction_argumentField_of_not_last hlong hmore
    | true =>
      have hshift : s.shiftIn c.bit = { s with
          acc := if s.nbits = 63 then 0 else shl1 s.acc c.bit, hi := if s.nbits = 63 then shl1 s.acc c.bit else s.hi
          nbits := s.nbits + 1, countdown := s.countdown - 1 } := by
        simp [State.shiftIn, State.savesHigh, hf, hlong]
      have hbranch : s.fsmAction .argumentField cls c = s.longArgumentAction c := if_pos hlong
      rw [hbranch, State.longArgumentAction_eq c s rfl rfl, hshift]
      split
      · next hlast => simp [State.completeField, hf, hlong, hlast]
      · rfl
  | crc7 =>
    have hshift : s.shiftIn c.bit = { s with acc := shl1 s.acc c.bit, countdown := s.countdown - 1 } := by
      simp [State.shiftIn, State.savesHigh, hf]
    rw [hshift]
    split
    · next hlast =>
      refine (State.crc7Action_of_last hlast).trans ?_
      simp [State.completeField, hf, hlast]
    · next hmore => exact State.crc7Action_of_not_last hmore

/-! What the bits of a field leave in the registers. -/

/-- Shifting in reads and writes the FSM's registers only. -/
theorem State.foldl_shiftIn_with (bits : List Bool) (s : State) (clk cmd : Cursor) (dat : DataSet Cursor)
    (cancels : List Bool) (unit : Option BusUnit) (o : List Event) :
    bits.foldl State.shiftIn
        { s with clk := clk, cmd := cmd, dat := dat, cancelRequests := cancels, presented := unit, out := o } =
      { bits.foldl State.shiftIn s with
        clk := clk, cmd := cmd, dat := dat, cancelRequests := cancels, presented := unit, out := o } := by
  induction bits generalizing s with
  | nil => rfl
  | cons b bits ih => exact ih (s.shiftIn b)

/-- Bits none of which is the 64th of a long argument. -/
theorem State.foldl_shiftIn_eq {bits : List Bool} {s : State}
    (h : s.frameState = .argumentField → s.respLong = true → ∀ i < bits.length, s.nbits + BitVec.ofNat 8 i ≠ 63) :
    bits.foldl State.shiftIn s = { s with
      acc := bits.foldl shl1 s.acc
      nbits := if s.frameState = .argumentField then s.nbits + BitVec.ofNat 8 bits.length else s.nbits
      countdown := s.countdown - BitVec.ofNat 8 bits.length } := by
  induction bits generalizing s with
  | nil => simp
  | cons b bits ih =>
    have hkeeps : s.savesHigh = false := by
      rw [Bool.eq_false_iff]
      intro hsaves
      obtain ⟨⟨hf, hlong⟩, hnbits⟩ : (s.frameState = .argumentField ∧ s.respLong = true) ∧ s.nbits = 63 := by
        simpa [State.savesHigh] using hsaves
      exact h hf hlong 0 (by simp) (by simpa using hnbits)
    have hshift : s.shiftIn b = { s with
        acc := shl1 s.acc b, nbits := if s.frameState = .argumentField then s.nbits + 1 else s.nbits
        countdown := s.countdown - 1 } := by
      simp [State.shiftIn, hkeeps]
    rw [List.foldl_cons, hshift, ih]
    · have hcountdown : s.countdown - 1 - BitVec.ofNat 8 bits.length = s.countdown - BitVec.ofNat 8 (b :: bits).length := by
        rw [List.length_cons, BitVec.ofNat_add, sub_add_eq_sub_sub_swap]; rfl
      have hnbits : s.nbits + 1 + BitVec.ofNat 8 bits.length = s.nbits + BitVec.ofNat 8 (b :: bits).length := by
        rw [List.length_cons, BitVec.ofNat_add, add_assoc, add_comm (1 : BitVec 8)]; rfl
      simp only [hcountdown]
      split
      · simp only [hnbits, List.foldl_cons]
      · simp only [List.foldl_cons]
    · intro hf hlong i hi
      have hf' : s.frameState = .argumentField := hf
      have hnext := h hf' hlong (i + 1) (by simpa using hi)
      simp only [hf', if_true]
      rwa [BitVec.ofNat_add, add_comm (BitVec.ofNat 8 i), ← add_assoc] at hnext

/-! The cycles of an exchange depend on the cursors alone. -/

/-- `t` has the cursors of `s`, the configuration and the capture too. -/
structure State.SameCursors (s t : State) : Prop where
  clk : t.clk = s.clk
  cmd : t.cmd = s.cmd
  dat : t.dat = s.dat
  config : t.config = s.config
  nSamples : t.nSamples = s.nSamples

theorem State.SameCursors.refl (s : State) : s.SameCursors s := ⟨rfl, rfl, rfl, rfl, rfl⟩

/-- `s` with the cursors of `t` and the marker of the cycle between them. -/
def State.cycled (s : State) (c : Cycle) (t : State) : State :=
  { s with clk := t.clk, cmd := t.cmd, dat := t.dat, out := s.out ++ [.marker c.mid .sampleEdge .clk] }

theorem State.eq_cycled_of_sampleHere {s t : State} {c : Cycle} (h : s.sampleHere = .ok c t) : t = s.cycled c t := by
  obtain ⟨m, d, q, -, -, -, rfl, rfl⟩ := State.sampleHere_ok.1 h
  rfl

theorem State.eq_cycled_of_cycle {s t : State} {c : Cycle} (h : s.cycle = .ok c t) : t = s.cycled c t := by
  obtain ⟨b, e, m, d, q, -, -, -, -, -, rfl, rfl⟩ := State.cycle_ok.1 h
  rfl

theorem State.eq_cycled_of_startCycle {s t : State} {c : Cycle} (h : s.startCycle = .ok c t) : t = s.cycled c t := by
  rcases State.startCycle_ok_cases h with ⟨-, e, -, hcycle⟩ | ⟨-, -, hhere⟩ | ⟨-, -, hcycle⟩
  · rw [State.eq_cycled_of_cycle hcycle]
    rfl
  · exact State.eq_cycled_of_sampleHere hhere
  · exact State.eq_cycled_of_cycle hcycle

theorem State.SameCursors.midLevel {s s' : State} (h : s.SameCursors s') : s'.midLevel = s.midLevel := by
  simp only [State.midLevel, State.sampleLevel, h.config]

theorem State.SameCursors.sampleHere {s s' t : State} {c : Cycle} (h : s.SameCursors s')
    (hhere : s.sampleHere = .ok c t) : s'.sampleHere = .ok c (s'.cycled c t) := by
  obtain ⟨m, d, q, hcmd, hdat, hpeek, rfl, rfl⟩ := State.sampleHere_ok.1 hhere
  refine State.sampleHere_ok.2 ⟨m, d, q, by rwa [h.clk, h.cmd, h.nSamples], by rwa [h.clk, h.dat, h.nSamples],
    by rwa [h.clk], by rw [h.clk], ?_⟩
  rw [State.cycled, ← h.clk]

theorem State.SameCursors.cycle {s s' t : State} {c : Cycle} (h : s.SameCursors s') (hcycle : s.cycle = .ok c t) :
    s'.cycle = .ok c (s'.cycled c t) := by
  obtain ⟨b, e, m, d, q, hb, he, hcmd, hdat, hpeek, rfl, rfl⟩ := State.cycle_ok.1 hcycle
  exact State.cycle_ok.2 ⟨b, e, m, d, q, by rwa [h.clk, h.midLevel], he, by rwa [h.cmd, h.nSamples],
    by rwa [h.dat, h.nSamples], hpeek, rfl, rfl⟩

theorem State.SameCursors.startCycle {s s' t : State} {c : Cycle} (h : s.SameCursors s')
    (hstart : s'.cmdStartSample = s.cmdStartSample) (hcycle : s.startCycle = .ok c t) :
    s'.startCycle = .ok c (s'.cycled c t) := by
  unfold State.startCycle
  rw [h.clk, hstart, h.midLevel]
  rcases State.startCycle_ok_cases hcycle with ⟨hbehind, e, hmove, hnext⟩ | ⟨hreached, hmid, hhere⟩ | ⟨hreached, hmid, hnext⟩
  · have hmove' : s'.clkTo s.cmdStartSample = .ok () { s' with clk := e } :=
      State.clkTo_ok.2 ⟨e, by rwa [h.clk, h.nSamples], rfl⟩
    have hsame : ({ s with clk := e } : State).SameCursors { s' with clk := e } :=
      ⟨rfl, h.cmd, h.dat, h.config, h.nSamples⟩
    rw [if_pos hbehind, hmove', Res.andThen_of_ok, hsame.cycle hnext]
    rfl
  · rw [if_neg (by omega), if_pos hmid, h.sampleHere hhere]
  · rw [if_neg (by omega), if_neg hmid, h.cycle hnext]

theorem State.cycled_sameCursors {s s' t : State} {c : Cycle} (h : s.SameCursors s') (ht : t = s.cycled c t) :
    t.SameCursors (s'.cycled c t) := by
  have hconfig : t.config = s.config := by rw [ht]; rfl
  have hn : t.nSamples = s.nSamples := by rw [ht]; rfl
  exact ⟨rfl, rfl, rfl, h.config.trans hconfig.symm, h.nSamples.trans hn.symm⟩

theorem State.cycleWalk_succ {s u : State} {k : Nat} {ends : List Nat} :
    State.cycleWalk (k + 1) s = some (ends, u) ↔
      ∃ c t ends', s.cycle = .ok c t ∧ State.cycleWalk k t = some (ends', u) ∧ ends = c.cycleEnd :: ends' := by
  rw [State.cycleWalk]
  cases s.cycle with
  | signal x t => simp
  | ok c t => simp [eq_comm, and_assoc]

theorem State.cycleWalk_zero {s u : State} {ends : List Nat} :
    State.cycleWalk 0 s = some (ends, u) ↔ ends = [] ∧ u = s := by
  simp [State.cycleWalk, eq_comm]

theorem State.SameCursors.cycleWalk {s s' u : State} {k : Nat} {ends : List Nat} (h : s.SameCursors s')
    (hwalk : State.cycleWalk k s = some (ends, u)) :
    ∃ u', State.cycleWalk k s' = some (ends, u') ∧ u.SameCursors u' := by
  induction k generalizing s s' ends with
  | zero =>
    obtain ⟨rfl, rfl⟩ := State.cycleWalk_zero.1 hwalk
    exact ⟨s', rfl, h⟩
  | succ k ih =>
    obtain ⟨c, t, ends', hcycle, hrest, rfl⟩ := State.cycleWalk_succ.1 hwalk
    obtain ⟨u', hrest', hsame⟩ := ih (State.cycled_sameCursors h (State.eq_cycled_of_cycle hcycle)) hrest
    exact ⟨u', State.cycleWalk_succ.2 ⟨c, _, ends', h.cycle hcycle, hrest', rfl⟩, hsame⟩

/-- The first `a` cycles of a walk, and the others from wherever the cursors are the same. -/
theorem State.cycleWalk_add {s u : State} {a b : Nat} {ends : List Nat}
    (hwalk : State.cycleWalk (a + b) s = some (ends, u)) :
    ∃ before v after, State.cycleWalk a s = some (before, v) ∧ before.length = a ∧ State.cycleWalk b v = some (after, u) ∧
      ends = before ++ after := by
  induction a generalizing s ends with
  | zero => exact ⟨[], s, ends, rfl, rfl, by simpa using hwalk, rfl⟩
  | succ a ih =>
    rw [Nat.succ_add] at hwalk
    obtain ⟨c, t, ends', hcycle, hrest, rfl⟩ := State.cycleWalk_succ.1 hwalk
    obtain ⟨before, v, after, hbefore, hlength, hafter, rfl⟩ := ih hrest
    exact ⟨c.cycleEnd :: before, v, after, State.cycleWalk_succ.2 ⟨c, t, before, hcycle, hbefore, rfl⟩, by simp [hlength],
      hafter, rfl⟩

/-! One bit of a presented frame. -/

theorem visible_append (es fs : List Event) : visible (es ++ fs) = visible es ++ visible fs := List.filter_append ..

@[simp] theorem visible_marker (p : Nat) (k : MarkerKind) (c : Channel) : visible [.marker p k c] = [] := rfl

/-- Where the driver goes on after an FSM cycle (R116). -/
def State.afterFsm (r : FsmResult) (s : State) : State :=
  match r with
  | .goOn => { s with phase := .analyzeCommand }
  | .complete => ({ s with phase := .findCmdStart } : State).progress
  | .abort => ({ s with phase := .findCmdStart } : State).progress

theorem State.analyze_of_fsmCycle {f : FrameState} {sup : Option SuppliedBit} {s t : State} {c : Cycle}
    (h : s.fsmCycle f = .ok c t) :
    s.analyze f sup =
      (t.fsmAction f (sup.bind (·.cls)) { c with bit := (sup.map (·.bit)).getD c.bit }).2.afterFsm
        (t.fsmAction f (sup.bind (·.cls)) { c with bit := (sup.map (·.bit)).getD c.bit }).1 := by
  rw [State.analyze_eq, State.fsmStep_eq, h]
  simp only
  generalize t.fsmAction f (sup.bind (·.cls)) { c with bit := (sup.map (·.bit)).getD c.bit } = r
  obtain ⟨r, u⟩ := r
  cases r <;> rfl

/-- The bit taken by the cycle of a sub-state after StartBit, where no cancel request is to be taken. -/
theorem State.exchangeRest_cons {cls : Option FrameClass} {b : Bool} {bits : List Bool} {s t : State} {c : Cycle}
    (hphase : s.phase = .analyzeCommand) (hcancel : s.cancelRequest = false) (hframe : s.frameState ≠ .startBit)
    (hcycle : s.cycle = .ok c t) :
    s.exchangeRest cls (b :: bits) =
      (((s.taken.cycled c t).fsmAction s.frameState cls { c with bit := b }).2.afterFsm
        ((s.taken.cycled c t).fsmAction s.frameState cls { c with bit := b }).1).exchangeRest cls bits := by
  have htaken : s.taken.cycle = .ok c (s.taken.cycled c t) :=
    State.SameCursors.cycle (s := s) (s' := s.taken) ⟨rfl, rfl, rfl, rfl, rfl⟩ hcycle
  have hfsm : s.taken.fsmCycle s.frameState = .ok c (s.taken.cycled c t) := by
    cases hf : s.frameState with
    | startBit => exact absurd hf hframe
    | direction | commandField | argumentField | crc7 | stop => exact htaken
  have hstep : s.exchangeRest cls (b :: bits) =
      (s.taken.analyze s.frameState (some ⟨b, cls⟩)).exchangeRest cls bits :=
    (if_pos hphase).trans (if_neg (by simp [hcancel]))
  rw [hstep, State.analyze_of_fsmCycle hfsm]
  rfl

theorem State.notCancelled_succ {k : Nat} {s : State} :
    s.notCancelled (k + 1) = true ↔ s.cancelRequest = false ∧ s.taken.notCancelled k = true := by
  unfold State.notCancelled State.cancelRequest State.taken
  cases s.cancelRequests with
  | nil => simp
  | cons c cs => simp

/-! Several bits of a presented frame: one lemma a sub-state, from wherever its field begins. -/

theorem State.completeField_phase (cls : Option FrameClass) (e : Nat) (s : State) :
    (s.completeField cls e).phase = s.phase := by
  unfold State.completeField
  split
  · rw [State.completeCommand_eq]
  · split <;> rfl
  all_goals rfl

/-- The bits of a whole field, where the clock has room for its cycles: they are shifted in, and the field is complete. -/
theorem State.exchangeRest_field {cls : Option FrameClass} {bits rest : List Bool} {s u : State} {ends : List Nat}
    (hphase : s.phase = .analyzeCommand) (hfield : s.inField = true) (hne : bits ≠ [])
    (hcount : s.countdown.toNat = bits.length) (hwalk : State.cycleWalk bits.length s = some (ends, u))
    (hcancel : s.notCancelled bits.length = true) :
    ∃ o, visible o = visible s.out ∧ s.exchangeRest cls (bits ++ rest) =
      (({ bits.foldl State.shiftIn s with
          clk := u.clk, cmd := u.cmd, dat := u.dat, cancelRequests := s.cancelRequests.drop bits.length
          presented := none, out := o } : State).completeField cls (ends.getD (bits.length - 1) 0)).exchangeRest cls rest := by
  induction bits generalizing s u ends with
  | nil => exact absurd rfl hne
  | cons b bits ih =>
    obtain ⟨c, t, ends', hcycle, hrest, rfl⟩ := State.cycleWalk_succ.1 hwalk
    obtain ⟨hnow, hlater⟩ := State.notCancelled_succ.1 hcancel
    have hframe : s.frameState ≠ .startBit := by
      intro hf
      simp [State.inField, hf] at hfield
    have ht := State.eq_cycled_of_cycle hcycle
    have haction : (s.taken.cycled c t).fsmAction s.frameState cls { c with bit := b } = _ :=
      State.fsmAction_of_field (s := s.taken.cycled c t) hfield
    rw [List.cons_append, State.exchangeRest_cons hphase hnow hframe hcycle, haction]
    simp only [State.afterFsm]
    cases bits with
    | nil =>
      obtain ⟨rfl, rfl⟩ := State.cycleWalk_zero.1 hrest
      have hlast : (s.taken.cycled c u).countdown = 1 := BitVec.eq_of_toNat_eq hcount
      rw [if_pos hlast]
      refine ⟨s.out ++ [.marker c.mid .sampleEdge .clk], by simp [visible_append], congrArg _ ?_⟩
      have hkeep := State.completeField_phase cls c.cycleEnd ((s.taken.cycled c u).shiftIn b)
      rw [show ((s.taken.cycled c u).shiftIn b).phase = .analyzeCommand from hphase] at hkeep
      generalize hv : ((s.taken.cycled c u).shiftIn b).completeField cls c.cycleEnd = v at hkeep
      rw [show ({ v with phase := .analyzeCommand } : State) = v by rw [← hkeep], ← hv, State.taken, ← List.drop_one]
      rfl
    | cons b' bits =>
      have hmore : (s.taken.cycled c t).countdown ≠ 1 := by
        intro h1
        have : s.countdown.toNat = 1 := congrArg BitVec.toNat (show s.countdown = 1 from h1)
        simp only [List.length_cons] at hcount
        omega
      rw [if_neg hmore]
      have hsame : t.SameCursors { (s.taken.cycled c t).shiftIn b with phase := .analyzeCommand } :=
        ⟨rfl, rfl, rfl, by rw [ht]; rfl, by rw [ht]; rfl⟩
      obtain ⟨u', hrest', hu⟩ := hsame.cycleWalk hrest
      have hcount' : (s.countdown - 1).toNat = (b' :: bits).length := by
        simp only [List.length_cons] at hcount ⊢
        rw [BitVec.toNat_sub_of_le (by rw [BitVec.le_def]; change 1 ≤ _; omega), hcount]
        rfl
      obtain ⟨o, hvisible, hexchange⟩ := ih (s := { (s.taken.cycled c t).shiftIn b with phase := .analyzeCommand }) rfl
        hfield (List.cons_ne_nil _ _) hcount' hrest' hlater
      refine ⟨o, hvisible.trans ?_, hexchange.trans ?_⟩
      · simp [State.shiftIn, State.cycled, visible_append]
      · rw [hu.clk, hu.cmd, hu.dat]
        have hregs : ({ (s.taken.cycled c t).shiftIn b with phase := .analyzeCommand } : State) =
            { s.shiftIn b with
              clk := t.clk, cmd := t.cmd, dat := t.dat, cancelRequests := s.cancelRequests.tail, presented := none
              out := s.out ++ [.marker c.mid .sampleEdge .clk] } := by
          rw [← hphase]; rfl
        rw [hregs, State.foldl_shiftIn_with]
        simp only [List.foldl_cons, List.length_cons, List.drop_tail, Nat.add_sub_cancel]
        rfl

end Sys2Proof.Machine
end

section
/-! PROOFS. The exchange of a 48-bit and of a 136-bit frame, field by field, where the clock has room for its cycles; and the
statements about the rows of the bus formats (log 5). -/

namespace Sys2Proof.Machine

/-! Room for some cycles of an exchange. -/

theorem State.cycleWalk_frame {s u : State} {k : Nat} {ends : List Nat}
    (hwalk : State.cycleWalk k s = some (ends, u)) : u.config = s.config ∧ u.nSamples = s.nSamples := by
  induction k generalizing s ends with
  | zero =>
    obtain ⟨-, rfl⟩ := State.cycleWalk_zero.1 hwalk
    exact ⟨rfl, rfl⟩
  | succ k ih =>
    obtain ⟨c, t, ends', hcycle, hrest, -⟩ := State.cycleWalk_succ.1 hwalk
    obtain ⟨hconfig, hn⟩ := ih hrest
    have ht := State.eq_cycled_of_cycle hcycle
    exact ⟨hconfig.trans (by rw [ht]; rfl), hn.trans (by rw [ht]; rfl)⟩

/-- From `s`, which stands where `w` stands, the next `k` cycles end at `ends`, leave the cursors as in `v`, and are not
cancelled. -/
structure State.Room (s w : State) (k : Nat) (ends : List Nat) (v : State) : Prop where
  phase : s.phase = .analyzeCommand
  cursors : w.SameCursors s
  walk : State.cycleWalk k w = some (ends, v)
  cancel : s.notCancelled k = true

/-- After `k` cycles: the cursors as in `v`, the inputs of `k` iterations taken, and `o` for the output. -/
def State.after (s : State) (k : Nat) (v : State) (o : List Event) : State :=
  { s with
    clk := v.clk, cmd := v.cmd, dat := v.dat, cancelRequests := s.cancelRequests.drop k, presented := none, out := o }

/-- `t` follows `s` after `k` cycles that leave the cursors as in `v`, whatever the registers. -/
structure State.Follows (t s : State) (k : Nat) (v : State) : Prop where
  phase : t.phase = .analyzeCommand
  clk : t.clk = v.clk
  cmd : t.cmd = v.cmd
  dat : t.dat = v.dat
  config : t.config = s.config
  nSamples : t.nSamples = s.nSamples
  cancels : t.cancelRequests = s.cancelRequests.drop k

/-- The room for the first cycles, and for the others from any state after them. -/
theorem State.Room.split {s w v : State} {a b : Nat} {ends : List Nat} (h : s.Room w (a + b) ends v) :
    ∃ before m after, s.Room w a before m ∧ before.length = a ∧ ends = before ++ after ∧
      ∀ t : State, t.Follows s a m → t.Room m b after v := by
  obtain ⟨before, m, after, hbefore, hlength, hafter, rfl⟩ := State.cycleWalk_add h.walk
  obtain ⟨hconfig, hn⟩ := State.cycleWalk_frame hbefore
  have hcancel := h.cancel
  rw [State.notCancelled, List.take_add, List.all_append, Bool.and_eq_true] at hcancel
  refine ⟨before, m, after, ⟨h.phase, h.cursors, hbefore, hcancel.1⟩, hlength, rfl, fun t ht => ?_⟩
  refine ⟨ht.phase, ⟨ht.clk, ht.cmd, ht.dat, ?_, ?_⟩, hafter, by rw [State.notCancelled, ht.cancels]; exact hcancel.2⟩
  · rw [ht.config, hconfig, h.cursors.config]
  · rw [ht.nSamples, hn, h.cursors.nSamples]

theorem State.foldl_shiftIn_cancelRequests (bits : List Bool) (s : State) :
    (bits.foldl State.shiftIn s).cancelRequests = s.cancelRequests := by
  induction bits generalizing s with
  | nil => rfl
  | cons b bits ih => exact ih (s.shiftIn b)

theorem State.Room.field {cls : Option FrameClass} {bits : List Bool} {s w v : State} {ends : List Nat}
    (h : s.Room w bits.length ends v) (hfield : s.inField = true) (hne : bits ≠ [])
    (hcount : s.countdown.toNat = bits.length) (rest : List Bool) :
    ∃ o, visible o = visible s.out ∧ s.exchangeRest cls (bits ++ rest) =
      (((bits.foldl State.shiftIn s).after bits.length v o).completeField cls
        (ends.getD (bits.length - 1) 0)).exchangeRest cls rest := by
  obtain ⟨u, hwalk, hu⟩ := h.cursors.cycleWalk h.walk
  obtain ⟨o, hvisible, hexchange⟩ := State.exchangeRest_field h.phase hfield hne hcount hwalk h.cancel
  refine ⟨o, hvisible, ?_⟩
  rw [hexchange, hu.clk, hu.cmd, hu.dat, State.after]
  rw [State.foldl_shiftIn_cancelRequests]

/-- The one bit of a sub-state that takes one. -/
theorem State.Room.single {cls : Option FrameClass} {b : Bool} {s w v : State} {ends : List Nat} (h : s.Room w 1 ends v)
    (hframe : s.frameState ≠ .startBit) (rest : List Bool) :
    ∃ c : Cycle, c.cycleEnd = ends.getD 0 0 ∧ s.exchangeRest cls (b :: rest) =
      (((s.after 1 v (s.out ++ [.marker c.mid .sampleEdge .clk])).fsmAction s.frameState cls { c with bit := b }).2.afterFsm
        ((s.after 1 v (s.out ++ [.marker c.mid .sampleEdge .clk])).fsmAction s.frameState cls
          { c with bit := b }).1).exchangeRest cls rest := by
  obtain ⟨c, t, ends', hcycle, hrest, rfl⟩ := State.cycleWalk_succ.1 h.walk
  obtain ⟨rfl, rfl⟩ := State.cycleWalk_zero.1 hrest
  have hcancel : s.cancelRequest = false := (State.notCancelled_succ.1 h.cancel).1
  refine ⟨c, rfl, (State.exchangeRest_cons h.phase hcancel hframe (h.cursors.cycle hcycle)).trans ?_⟩
  have hafter : s.taken.cycled c (s.cycled c v) = s.after 1 v (s.out ++ [.marker c.mid .sampleEdge .clk]) := by
    rw [State.after, List.drop_one]
    rfl
  rw [hafter]

/-! The fields of an exchange, in order. -/

section
variable {s w v : State} {ends : List Nat} {cls : FrameClass}

theorem State.Room.direction {b : Bool} (h : s.Room w 1 ends v) (hframe : s.frameState = .direction)
    (rest : List Bool) :
    ∃ o t, visible o = visible s.out ++ [.addFrame (.upTo .direction s.fieldStart (ends.getD 0 0) (if b then 1 else 0) 0 0)] ∧
      t = { s.after 1 v o with
          frameState := .commandField, dir := b, fieldStart := ends.getD 0 0, countdown := 6, acc := 0
          packetOpen := true } ∧
      s.exchangeRest (some cls) (b :: rest) = t.exchangeRest (some cls) rest := by
  obtain ⟨c, hend, hexchange⟩ := h.single (cls := some cls) (b := b) (by rw [hframe]; exact nofun) rest
  rw [hframe] at hexchange
  have haction := State.directionAction_eq { c with bit := b } (s.after 1 v (s.out ++ [.marker c.mid .sampleEdge .clk]))
  refine ⟨s.out ++ [.marker c.mid .sampleEdge .clk] ++
    [.addFrame (.upTo .direction s.fieldStart (ends.getD 0 0) (if b then 1 else 0) 0 0)], _, ?_, rfl, hexchange.trans ?_⟩
  · simp only [visible_append, visible_marker, List.append_nil]
    rfl
  · rw [State.fsmAction, haction, hend, State.afterFsm, ← h.phase]
    rfl

theorem State.Room.command {n : BitVec 6} (h : s.Room w 6 ends v) (hframe : s.frameState = .commandField)
    (hcount : s.countdown = 6) (hacc : s.acc = 0) (rest : List Bool) :
    ∃ o t, visible o = visible s.out ++
        [.addFrame (.upTo cls.kind s.fieldStart (ends.getD 5 0) (n.setWidth 64) 0 (s.contextByte cls))] ∧
      t = { s.after 6 v o with
          frameState := .argumentField, respLong := cls.isLong
          lastHostCmd := if cls.isHost then n else s.lastHostCmd
          lastHostCmdValid := cls.isHost || s.lastHostCmdValid
          fieldStart := ends.getD 5 0, countdown := if cls.isLong then 127 else 32, acc := 0, hi := 0, nbits := 0
          packetOpen := true } ∧
      s.exchangeRest (some cls) (bitsOf n ++ rest) = t.exchangeRest (some cls) rest := by
  have hlength := bitsOf_length n
  have hroom : s.Room w (bitsOf n).length ends v := by rwa [hlength]
  obtain ⟨o, hvisible, hexchange⟩ := hroom.field (cls := some cls) (by simp [State.inField, hframe])
    (List.ne_nil_of_length_pos (by omega)) (by rw [hcount, hlength]; rfl) rest
  rw [State.foldl_shiftIn_eq (fun hf => by rw [hframe] at hf; cases hf), hlength, hcount, hacc, foldl_shl1_bitsOf]
    at hexchange
  have hv : (n.setWidth 64).setWidth 6 = n := by
    rw [BitVec.setWidth_setWidth_of_le _ (by omega), BitVec.setWidth_eq]
  refine ⟨o ++ [.addFrame (.upTo cls.kind s.fieldStart (ends.getD 5 0) (n.setWidth 64) 0 (s.contextByte cls))],
    _, by rw [visible_append, hvisible]; rfl, rfl, hexchange.trans ?_⟩
  simp only [State.completeField, State.after, hframe, Option.getD_some, State.completeCommand_eq, hv]
  cases cls <;> rfl

theorem State.Room.argument {arg : BitVec 32} (h : s.Room w 32 ends v) (hframe : s.frameState = .argumentField)
    (hlong : s.respLong = false) (hcount : s.countdown = 32) (hacc : s.acc = 0) (rest : List Bool) :
    ∃ o t, visible o = visible s.out ++
        [.addFrame (.upTo .argument s.fieldStart (ends.getD 31 0) (arg.setWidth 64) 0 0)] ∧
      t = { s.after 32 v o with
          frameState := .crc7, fieldStart := ends.getD 31 0, countdown := 7, acc := 0, nbits := s.nbits + 32
          packetOpen := true } ∧
      s.exchangeRest (some cls) (bitsOf arg ++ rest) = t.exchangeRest (some cls) rest := by
  have hlength := bitsOf_length arg
  have hroom : s.Room w (bitsOf arg).length ends v := by rwa [hlength]
  obtain ⟨o, hvisible, hexchange⟩ := hroom.field (cls := some cls) (by simp [State.inField, hframe])
    (List.ne_nil_of_length_pos (by omega)) (by rw [hcount, hlength]; rfl) rest
  rw [State.foldl_shiftIn_eq (fun _ hl => by rw [hlong] at hl; cases hl), hlength, hcount, hacc, foldl_shl1_bitsOf,
    if_pos hframe] at hexchange
  have hv : (arg.setWidth 64).setWidth 32 = arg := by
    rw [BitVec.setWidth_setWidth_of_le _ (by omega), BitVec.setWidth_eq]
  refine ⟨o ++ [.addFrame (.upTo .argument s.fieldStart (ends.getD 31 0) (arg.setWidth 64) 0 0)],
    _, by rw [visible_append, hvisible]; rfl, rfl, hexchange.trans ?_⟩
  simp only [State.completeField, State.after, hframe, hlong, hv, Bool.false_eq_true, if_false]
  rfl

theorem State.Room.crc7 {crc : BitVec 7} (h : s.Room w 7 ends v) (hframe : s.frameState = .crc7)
    (hcount : s.countdown = 7) (hacc : s.acc = 0) (rest : List Bool) :
    ∃ o t, visible o = visible s.out ++
        [.addFrame (.upTo .crc7 s.fieldStart (ends.getD 6 0) (crc.setWidth 64) 0 0)] ∧
      t = { s.after 7 v o with
          frameState := .stop, fieldStart := ends.getD 6 0, countdown := 0, acc := crc.setWidth 64
          packetOpen := true } ∧
      s.exchangeRest (some cls) (bitsOf crc ++ rest) = t.exchangeRest (some cls) rest := by
  have hlength := bitsOf_length crc
  have hroom : s.Room w (bitsOf crc).length ends v := by rwa [hlength]
  obtain ⟨o, hvisible, hexchange⟩ := hroom.field (cls := some cls) (by simp [State.inField, hframe])
    (List.ne_nil_of_length_pos (by omega)) (by rw [hcount, hlength]; rfl) rest
  rw [State.foldl_shiftIn_eq (fun hf => by rw [hframe] at hf; cases hf), hlength, hcount, hacc, foldl_shl1_bitsOf,
    if_neg (by rw [hframe]; exact nofun)] at hexchange
  have hv : (crc.setWidth 64).setWidth 7 = crc := by
    rw [BitVec.setWidth_setWidth_of_le _ (by omega), BitVec.setWidth_eq]
  refine ⟨o ++ [.addFrame (.upTo .crc7 s.fieldStart (ends.getD 6 0) (crc.setWidth 64) 0 0)],
    _, by rw [visible_append, hvisible]; rfl, rfl, hexchange.trans ?_⟩
  simp only [State.completeField, State.after, hframe, hv]
  rfl

theorem State.shiftIn_of_saves {s : State} {b : Bool} (hframe : s.frameState = .argumentField) (hlong : s.respLong = true)
    (hnbits : s.nbits = 63) :
    s.shiftIn b = { s with acc := 0, hi := shl1 s.acc b, nbits := 64, countdown := s.countdown - 1 } := by
  have hsaves : s.savesHigh = true := by simp [State.savesHigh, hframe, hlong, hnbits]
  rw [State.shiftIn, if_pos hsaves, if_pos hsaves, if_pos hframe, hnbits]
  rfl

theorem ofNat_add_ne_63 {k i : Nat} (hi : k + i < 256) (hne : k + i ≠ 63) :
    BitVec.ofNat 8 k + BitVec.ofNat 8 i ≠ 63 := by
  intro h
  have hnat := congrArg BitVec.toNat h
  rw [← BitVec.ofNat_add, BitVec.toNat_ofNat, Nat.mod_eq_of_lt hi] at hnat
  exact hne hnat

/-- The 64 bits before the save and the 63 after it (R102). -/
theorem State.foldl_shiftIn_long {hi : BitVec 64} {lo : BitVec 63} {s : State} (hframe : s.frameState = .argumentField)
    (hlong : s.respLong = true) (hcount : s.countdown = 127) (hnbits : s.nbits = 0) (hacc : s.acc = 0) :
    (bitsOf hi ++ bitsOf lo).foldl State.shiftIn s =
      { s with acc := lo.setWidth 64, hi := hi, nbits := 127, countdown := 0 } := by
  obtain ⟨b, hsplit⟩ : ∃ b, bitsOf hi = (bitsOf hi).take 63 ++ [b] := by
    refine ⟨(bitsOf hi)[63]'(by simp), ?_⟩
    rw [List.take_append_getElem, List.take_of_length_le (by simp)]
  have hhigh : shl1 (((bitsOf hi).take 63).foldl shl1 0) b = hi := by
    have hall := foldl_shl1_bitsOf (m := 64) hi
    rw [hsplit, List.foldl_append, BitVec.setWidth_eq] at hall
    exact hall
  have hbefore : ((bitsOf hi).take 63).foldl State.shiftIn s = { s with
      acc := ((bitsOf hi).take 63).foldl shl1 0, nbits := 63, countdown := 64 } := by
    have hlength : ((bitsOf hi).take 63).length = 63 := by simp
    have hfold := State.foldl_shiftIn_eq (bits := (bitsOf hi).take 63) (s := s) (by
      intro _ _ i hi63
      rw [hlength] at hi63
      rw [hnbits]
      exact ofNat_add_ne_63 (k := 0) (by omega) (by omega))
    rw [hfold, if_pos hframe, hlength, hnbits, hcount, hacc]
    rfl
  have hsave : State.shiftIn { s with
      acc := ((bitsOf hi).take 63).foldl shl1 0, nbits := 63, countdown := 64 } b =
      { s with acc := 0, hi := hi, nbits := 64, countdown := 63 } := by
    refine (State.shiftIn_of_saves (s := { s with
      acc := ((bitsOf hi).take 63).foldl shl1 0, nbits := 63, countdown := 64 }) hframe hlong rfl).trans ?_
    simp only [hhigh]
    rfl
  have hlength := bitsOf_length lo
  have hafter := State.foldl_shiftIn_eq (bits := bitsOf lo)
    (s := { s with acc := 0, hi := hi, nbits := 64, countdown := 63 }) (by
      intro _ _ i hi63
      rw [hlength] at hi63
      exact ofNat_add_ne_63 (k := 64) (by omega) (by omega))
  rw [hlength, if_pos hframe, foldl_shl1_bitsOf] at hafter
  rw [hsplit, List.foldl_append, List.foldl_append, hbefore, List.foldl_cons, List.foldl_nil, hsave, hafter]
  congr 1
  exact BitVec.sub_self _

theorem shl1_setWidth (lo : BitVec 63) : shl1 (lo.setWidth 64) false = lo ++ 0#1 := by
  apply eq_of_bitsOf_eq
  have hbits : bitsOf (lo.setWidth 64) = false :: bitsOf lo := by
    have happend : lo.setWidth (1 + 63) = 0#1 ++ lo := by
      apply BitVec.eq_of_toNat_eq
      have hlt := lo.isLt
      rw [BitVec.toNat_append, BitVec.toNat_setWidth, Nat.mod_eq_of_lt (by omega)]
      simp
    exact (congrArg (bitsOf (n := 1 + 63)) happend).trans (bitsOf_append 0#1 lo)
  rw [bitsOf_shl1, hbits, bitsOf_append]
  rfl

theorem State.Room.longArgument {hi : BitVec 64} {lo : BitVec 63} (h : s.Room w 127 ends v)
    (hframe : s.frameState = .argumentField) (hlong : s.respLong = true) (hcount : s.countdown = 127)
    (hnbits : s.nbits = 0) (hacc : s.acc = 0) (rest : List Bool) :
    ∃ o t, visible o = visible s.out ++
        [.addFrame (.upTo .longArgument s.fieldStart (ends.getD 126 0) hi (lo ++ 0#1) 0)] ∧
      t = { s.after 127 v o with
          frameState := .stop, fieldStart := ends.getD 126 0, countdown := 0, acc := lo ++ 0#1, hi := hi, nbits := 127
          packetOpen := true } ∧
      s.exchangeRest (some cls) (bitsOf hi ++ bitsOf lo ++ rest) = t.exchangeRest (some cls) rest := by
  have hlength : (bitsOf hi ++ bitsOf lo).length = 127 := by simp
  have hroom : s.Room w (bitsOf hi ++ bitsOf lo).length ends v := by rwa [hlength]
  obtain ⟨o, hvisible, hexchange⟩ := hroom.field (cls := some cls) (by simp [State.inField, hframe])
    (List.ne_nil_of_length_pos (by omega)) (by rw [hcount, hlength]; rfl) rest
  rw [State.foldl_shiftIn_long hframe hlong hcount hnbits hacc, hlength] at hexchange
  refine ⟨o ++ [.addFrame (.upTo .longArgument s.fieldStart (ends.getD 126 0) hi (lo ++ 0#1) 0)],
    _, by rw [visible_append, hvisible]; rfl, rfl, hexchange.trans ?_⟩
  simp only [State.completeField, State.after, hframe, hlong, if_true, shl1_setWidth]

theorem visible_shown (suppressed : Bool) (f : Frame) : visible (shown suppressed f) = shown suppressed f := by
  cases suppressed <;> rfl

/-- The stop bit closes the exchange, whatever it is (R104). -/
theorem State.Room.stop {b : Bool} (h : s.Room w 1 ends v) (hframe : s.frameState = .stop) (hopen : s.packetOpen = true) :
    ∃ o, visible o = visible s.out ++ (shown s.config.suppressStartStopFrames (.upTo .stop s.fieldStart (ends.getD 0 0) 0 0 0)
        ++ [.commitPacket] ++ [.progress v.clk.pos]) ∧
      s.exchangeRest (some cls) [b] =
        { s.after 1 v o with
          phase := .findCmdStart, frameState := .startBit, fieldStart := ends.getD 0 0, packetOpen := false } := by
  obtain ⟨c, hend, hexchange⟩ := h.single (cls := some cls) (b := b) (by rw [hframe]; exact nofun) []
  rw [hframe] at hexchange
  have haction := State.stopAction_eq { c with bit := b } (s.after 1 v (s.out ++ [.marker c.mid .sampleEdge .clk]))
  refine ⟨s.out ++ [.marker c.mid .sampleEdge .clk] ++ [.marker c.mid .stopMark .cmd]
    ++ shown s.config.suppressStartStopFrames (.upTo .stop s.fieldStart (ends.getD 0 0) 0 0 0)
    ++ [.commitPacket] ++ [.progress v.clk.pos], ?_, hexchange.trans ?_⟩
  · simp only [visible_append, visible_marker, visible_shown, List.append_assoc]
    rfl
  · rw [State.fsmAction, haction, hend]
    simp only [State.after, hopen, Bool.true_or]
    rfl

/-- The start bit opens the exchange (R97), in a cycle that looks at no cancel request. -/
theorem State.exchange_of_startCycle {s t : State} {c : Cycle} (cls : Option FrameClass) (h : s.startCycle = .ok c t)
    (rest : List Bool) :
    ∃ o v, visible o = visible s.out ++ shown s.config.suppressStartStopFrames (.upTo .start s.cmdStartSample c.cycleEnd 0 0 0) ∧
      v = { s with
          phase := .analyzeCommand, frameState := .direction, fieldStart := c.cycleEnd
          packetOpen := s.packetOpen || !s.config.suppressStartStopFrames
          clk := t.clk, cmd := t.cmd, dat := t.dat, out := o } ∧
      s.exchange cls (false :: rest) = v.exchangeRest cls rest := by
  have hcycle := State.SameCursors.startCycle (s := s)
    (s' := { s with phase := .analyzeCommand, frameState := .startBit }) ⟨rfl, rfl, rfl, rfl, rfl⟩ rfl h
  have haction := State.startBitAction_of_low (c := { c with bit := false })
    (s := ({ s with phase := .analyzeCommand, frameState := .startBit } : State).cycled c t) rfl
  refine ⟨s.out ++ [.marker c.mid .sampleEdge .clk] ++ [.marker s.cmdStartSample .startMark .cmd]
    ++ shown s.config.suppressStartStopFrames (.upTo .start s.cmdStartSample c.cycleEnd 0 0 0), _, ?_, rfl, ?_⟩
  · simp only [visible_append, visible_marker, visible_shown, List.append_nil]
  · rw [State.exchange, State.analyze_of_fsmCycle (f := .startBit) hcycle]
    simp only [Option.map_some, Option.getD_some, State.fsmAction, haction]
    rfl

end

/-! The whole exchanges. -/

theorem bitsOf_pack48 (dir : BitVec 1) (idx : BitVec 6) (arg : BitVec 32) (crc : BitVec 7) (stop : BitVec 1) :
    bitsOf (pack48 dir idx arg crc stop) =
      false :: dir.msb :: (bitsOf idx ++ (bitsOf arg ++ (bitsOf crc ++ [stop.msb]))) := by
  simp only [pack48, bitsOf_append, List.append_assoc]
  rfl

theorem bitsOf_pack136 (idx : BitVec 6) (hi : BitVec 64) (lo : BitVec 63) (stop : BitVec 1) :
    bitsOf (pack136 idx hi lo stop) = false :: false :: (bitsOf idx ++ (bitsOf hi ++ bitsOf lo ++ [stop.msb])) := by
  simp only [pack136, bitsOf_append, List.append_assoc]
  rfl

theorem State.exchangeWalk_iff {s u : State} {k : Nat} {ends : List Nat} :
    s.exchangeWalk k = some (ends, u) ↔
      ∃ c t ends', s.startCycle = .ok c t ∧ State.cycleWalk k t = some (ends', u) ∧ ends = c.cycleEnd :: ends' := by
  rw [State.exchangeWalk]
  cases s.startCycle with
  | signal x t => simp
  | ok c t => simp [eq_comm, and_assoc]

/-- The cycle ends of an exchange, field by field. -/
theorem getD_fields {pre field rest : List Nat} {k : Nat} (h : k < field.length) :
    (pre ++ (field ++ rest)).getD (pre.length + k) 0 = field.getD k 0 := by
  rw [List.getD_append_right _ _ _ _ (Nat.le_add_right _ _), Nat.add_sub_cancel_left, List.getD_append _ _ _ _ h]

theorem getD_last (pre rest : List Nat) : (pre ++ rest).getD pre.length 0 = rest.getD 0 0 := by
  rw [List.getD_append_right _ _ _ _ le_rfl, Nat.sub_self]

/-- A class with a short argument makes the exchange of a 48-bit frame. -/
theorem State.exchange48_of_room {cls : FrameClass} (hcls : cls.isLong = false) {dir : BitVec 1} {idx : BitVec 6}
    {arg : BitVec 32} {crc : BitVec 7} {stop : BitVec 1} {s u : State} {ends : List Nat}
    (hwalk : s.exchangeWalk 47 = some (ends, u)) (hcancel : s.notCancelled 47 = true) :
    ∃ o, s.runFrame cls (bitsOf (pack48 dir idx arg crc stop)) = { s with
        phase := .findCmdStart, frameState := .startBit, countdown := 0, acc := crc.setWidth 64, hi := 0, nbits := 32
        dir := dir.msb, respLong := false, lastHostCmd := if cls.isHost then idx else s.lastHostCmd
        lastHostCmdValid := cls.isHost || s.lastHostCmdValid
        fieldStart := ends.getD 47 0, packetOpen := false, clk := u.clk, cmd := u.cmd, dat := u.dat
        cancelRequests := s.cancelRequests.drop 47, presented := none, out := o } ∧
      visible o = visible s.out ++ s.exchange48 ends dir.msb cls.kind idx arg crc (s.contextByte cls)
        ++ [.progress u.clk.pos] := by
  obtain ⟨c, t, ends', hstart, hcycles, rfl⟩ := State.exchangeWalk_iff.1 hwalk
  have ht := State.eq_cycled_of_startCycle hstart
  have hconfig : s.config = t.config := by rw [ht]; rfl
  have hn : s.nSamples = t.nSamples := by rw [ht]; rfl
  rw [State.runFrame, bitsOf_pack48]
  obtain ⟨o1, s1, hvisible1, hs1, h1⟩ := State.exchange_of_startCycle (some cls) hstart
    (dir.msb :: (bitsOf idx ++ (bitsOf arg ++ (bitsOf crc ++ [stop.msb]))))
  have hroom : s1.Room t (1 + (6 + (32 + (7 + 1)))) ends' u := by
    rw [hs1]
    exact ⟨rfl, ⟨rfl, rfl, rfl, hconfig, hn⟩, hcycles, hcancel⟩
  obtain ⟨e1, m1, l1, hroom1, hlen1, rfl, hnext1⟩ := hroom.split
  obtain ⟨o2, s2, hvisible2, hs2, h2⟩ := hroom1.direction (cls := cls) (b := dir.msb) (by rw [hs1])
    (bitsOf idx ++ (bitsOf arg ++ (bitsOf crc ++ [stop.msb])))
  obtain ⟨e2, m2, l2, hroom2, hlen2, rfl, hnext2⟩ :=
    (hnext1 s2 (by rw [hs2]; exact ⟨hroom1.phase, rfl, rfl, rfl, rfl, rfl, rfl⟩)).split
  obtain ⟨o3, s3, hvisible3, hs3, h3⟩ := hroom2.command (cls := cls) (n := idx) (by rw [hs2]) (by rw [hs2]) (by rw [hs2])
    (bitsOf arg ++ (bitsOf crc ++ [stop.msb]))
  obtain ⟨e3, m3, l3, hroom3, hlen3, rfl, hnext3⟩ :=
    (hnext2 s3 (by rw [hs3]; exact ⟨hroom2.phase, rfl, rfl, rfl, rfl, rfl, rfl⟩)).split
  obtain ⟨o4, s4, hvisible4, hs4, h4⟩ := hroom3.argument (cls := cls) (arg := arg) (by rw [hs3])
    (by rw [hs3]; exact hcls) (by rw [hs3, hcls]; rfl) (by rw [hs3]) (bitsOf crc ++ [stop.msb])
  obtain ⟨e4, m4, l4, hroom4, hlen4, rfl, hnext4⟩ :=
    (hnext3 s4 (by rw [hs4]; exact ⟨hroom3.phase, rfl, rfl, rfl, rfl, rfl, rfl⟩)).split
  obtain ⟨o5, s5, hvisible5, hs5, h5⟩ := hroom4.crc7 (cls := cls) (crc := crc) (by rw [hs4]) (by rw [hs4]) (by rw [hs4])
    [stop.msb]
  have hroom5 := hnext4 s5 (by rw [hs5]; exact ⟨hroom4.phase, rfl, rfl, rfl, rfl, rfl, rfl⟩)
  obtain ⟨o6, hvisible6, h6⟩ := hroom5.stop (cls := cls) (b := stop.msb) (by rw [hs5]) (by rw [hs5])
  obtain ⟨hdir, hidx, harg, hcrc, hstop⟩ : _ ∧ _ ∧ _ ∧ _ ∧ _ :=
    ⟨getD_fields (k := 0) (pre := [c.cycleEnd]) (rest := e2 ++ (e3 ++ (e4 ++ l4))) (hlen1.symm ▸ Nat.one_pos),
      getD_fields (k := 5) (pre := c.cycleEnd :: e1) (rest := e3 ++ (e4 ++ l4)) (show 5 < e2.length by omega),
      getD_fields (k := 31) (pre := c.cycleEnd :: (e1 ++ e2)) (rest := e4 ++ l4) (show 31 < e3.length by omega),
      getD_fields (k := 6) (pre := c.cycleEnd :: (e1 ++ e2 ++ e3)) (rest := l4) (show 6 < e4.length by omega),
      getD_last (c.cycleEnd :: (e1 ++ e2 ++ e3 ++ e4)) l4⟩
  simp only [List.cons_append, List.append_assoc, List.nil_append, List.length_cons, List.length_append, List.length_nil,
    hlen1, hlen2, hlen3, hlen4, Nat.reduceAdd] at hdir hidx harg hcrc hstop
  refine ⟨o6, ?_, ?_⟩
  · rw [h1, h2, h3, h4, h5, h6, hs5, hs4, hs3, hs2, hs1, hcls, hstop]
    simp only [State.after, List.drop_drop]
    rfl
  · have hcontext : s2.contextByte cls = s.contextByte cls := by
      rw [hs2, hs1]
      cases cls <;> rfl
    have hfield2 : s2.fieldStart = e1.getD 0 0 := by rw [hs2]
    have hfield3 : s3.fieldStart = e2.getD 5 0 := by rw [hs3]
    have hfield4 : s4.fieldStart = e3.getD 31 0 := by rw [hs4]
    have hfield5 : s5.fieldStart = e4.getD 6 0 := by rw [hs5]
    have hfield1 : s1.fieldStart = c.cycleEnd := by rw [hs1]
    have hsuppress : s5.config = s.config := by rw [hs5, hs4, hs3, hs2, hs1]; rfl
    have hout1 : s1.out = o1 := by rw [hs1]
    have hout2 : s2.out = o2 := by rw [hs2]; rfl
    have hout3 : s3.out = o3 := by rw [hs3]; rfl
    have hout4 : s4.out = o4 := by rw [hs4]; rfl
    have hout5 : s5.out = o5 := by rw [hs5]; rfl
    rw [hvisible6, hout5, hvisible5, hout4, hvisible4, hout3, hvisible3, hout2, hvisible2, hout1, hvisible1]
    simp only [State.exchange48, hdir, hidx, harg, hcrc, hstop, hcontext, hfield1, hfield2, hfield3, hfield4, hfield5,
      hsuppress, List.append_assoc, List.cons_append, List.nil_append, List.getD_cons_zero]

/-- A class with a long argument makes the exchange of a 136-bit frame. -/
theorem State.exchange136_of_room {idx : BitVec 6} {hi : BitVec 64} {lo : BitVec 63} {stop : BitVec 1} {s u : State}
    {ends : List Nat} (hwalk : s.exchangeWalk 135 = some (ends, u)) (hcancel : s.notCancelled 135 = true) :
    ∃ o, s.runFrame .longResponse (bitsOf (pack136 idx hi lo stop)) = { s with
        phase := .findCmdStart, frameState := .startBit, countdown := 0, acc := lo ++ 0#1, hi := hi, nbits := 127
        dir := false, respLong := true
        fieldStart := ends.getD 135 0, packetOpen := false, clk := u.clk, cmd := u.cmd, dat := u.dat
        cancelRequests := s.cancelRequests.drop 135, presented := none, out := o } ∧
      visible o = visible s.out ++ s.exchange136 ends idx hi lo s.responseFlags ++ [.progress u.clk.pos] := by
  obtain ⟨c, t, ends', hstart, hcycles, rfl⟩ := State.exchangeWalk_iff.1 hwalk
  have ht := State.eq_cycled_of_startCycle hstart
  have hconfig : s.config = t.config := by rw [ht]; rfl
  have hn : s.nSamples = t.nSamples := by rw [ht]; rfl
  rw [State.runFrame, bitsOf_pack136]
  obtain ⟨o1, s1, hvisible1, hs1, h1⟩ := State.exchange_of_startCycle (some .longResponse) hstart
    (false :: (bitsOf idx ++ (bitsOf hi ++ bitsOf lo ++ [stop.msb])))
  have hroom : s1.Room t (1 + (6 + (127 + 1))) ends' u := by
    rw [hs1]
    exact ⟨rfl, ⟨rfl, rfl, rfl, hconfig, hn⟩, hcycles, hcancel⟩
  obtain ⟨e1, m1, l1, hroom1, hlen1, rfl, hnext1⟩ := hroom.split
  obtain ⟨o2, s2, hvisible2, hs2, h2⟩ := hroom1.direction (cls := .longResponse) (b := false) (by rw [hs1])
    (bitsOf idx ++ (bitsOf hi ++ bitsOf lo ++ [stop.msb]))
  obtain ⟨e2, m2, l2, hroom2, hlen2, rfl, hnext2⟩ :=
    (hnext1 s2 (by rw [hs2]; exact ⟨hroom1.phase, rfl, rfl, rfl, rfl, rfl, rfl⟩)).split
  obtain ⟨o3, s3, hvisible3, hs3, h3⟩ := hroom2.command (cls := .longResponse) (n := idx) (by rw [hs2]) (by rw [hs2])
    (by rw [hs2]) (bitsOf hi ++ bitsOf lo ++ [stop.msb])
  obtain ⟨e3, m3, l3, hroom3, hlen3, rfl, hnext3⟩ :=
    (hnext2 s3 (by rw [hs3]; exact ⟨hroom2.phase, rfl, rfl, rfl, rfl, rfl, rfl⟩)).split
  obtain ⟨o4, s4, hvisible4, hs4, h4⟩ := hroom3.longArgument (cls := .longResponse) (hi := hi) (lo := lo) (by rw [hs3])
    (by rw [hs3]; rfl) (by rw [hs3]; rfl) (by rw [hs3]) (by rw [hs3]) [stop.msb]
  have hroom4 := hnext3 s4 (by rw [hs4]; exact ⟨hroom3.phase, rfl, rfl, rfl, rfl, rfl, rfl⟩)
  obtain ⟨o5, hvisible5, h5⟩ := hroom4.stop (cls := .longResponse) (b := stop.msb) (by rw [hs4]) (by rw [hs4])
  obtain ⟨hdir, hidx, harg, hstop⟩ : _ ∧ _ ∧ _ ∧ _ :=
    ⟨getD_fields (k := 0) (pre := [c.cycleEnd]) (rest := e2 ++ (e3 ++ l3)) (hlen1.symm ▸ Nat.one_pos),
      getD_fields (k := 5) (pre := c.cycleEnd :: e1) (rest := e3 ++ l3) (show 5 < e2.length by omega),
      getD_fields (k := 126) (pre := c.cycleEnd :: (e1 ++ e2)) (rest := l3) (show 126 < e3.length by omega),
      getD_last (c.cycleEnd :: (e1 ++ e2 ++ e3)) l3⟩
  simp only [List.cons_append, List.append_assoc, List.nil_append, List.length_cons, List.length_append, List.length_nil,
    hlen1, hlen2, hlen3, Nat.reduceAdd] at hdir hidx harg hstop
  refine ⟨o5, ?_, ?_⟩
  · rw [h1, h2, h3, h4, h5, hs4, hs3, hs2, hs1, hstop]
    simp only [State.after, List.drop_drop]
    rfl
  · have hcontext : s2.contextByte .longResponse = s.responseFlags := by
      rw [hs2, hs1]
      rfl
    have hfield1 : s1.fieldStart = c.cycleEnd := by rw [hs1]
    have hfield2 : s2.fieldStart = e1.getD 0 0 := by rw [hs2]
    have hfield3 : s3.fieldStart = e2.getD 5 0 := by rw [hs3]
    have hfield4 : s4.fieldStart = e3.getD 126 0 := by rw [hs4]
    have hsuppress : s4.config = s.config := by rw [hs4, hs3, hs2, hs1]; rfl
    have hout1 : s1.out = o1 := by rw [hs1]
    have hout2 : s2.out = o2 := by rw [hs2]; rfl
    have hout3 : s3.out = o3 := by rw [hs3]; rfl
    have hout4 : s4.out = o4 := by rw [hs4]; rfl
    rw [hvisible5, hout4, hvisible4, hout3, hvisible3, hout2, hvisible2, hout1, hvisible1]
    simp only [State.exchange136, hdir, hidx, harg, hstop, hcontext, hfield1, hfield2, hfield3, hfield4, hsuppress,
      List.append_assoc, List.cons_append, List.nil_append, List.getD_cons_zero]
    rfl

/-! The rows of the bus formats. -/

theorem exec_hostCommand (n : BitVec 6) (arg : BitVec 32) (crc : BitVec 7) (stop : BitVec 1) (s : State) :
    exec (hostCommand n arg crc stop) s = .next (s.runFrame .command (bitsOf (hostFrame n arg crc stop))) := by
  obtain ⟨k, hk⟩ := n
  interval_cases k <;> rfl

theorem exec_of_appCommand {n : BitVec 6} {arg : BitVec 32} {crc : BitVec 7} {stop : BitVec 1} {i : Instr}
    (h : appCommand n arg crc stop = some i) (s : State) :
    exec i s = .next (s.runFrame .appCommand (bitsOf (hostFrame n arg crc stop))) := by
  obtain ⟨k, hk⟩ := n
  interval_cases k <;> cases h <;> rfl

theorem exec_rsp (idx : BitVec 6) (arg : BitVec 32) (crc : BitVec 7) (stop : BitVec 1) (s : State) :
    exec (.rsp idx arg crc stop) s = .next (s.runFrame .response (bitsOf (responseFrame idx arg crc stop))) := rfl

theorem exec_rspLong (idx : BitVec 6) (hi : BitVec 64) (lo : BitVec 63) (stop : BitVec 1) (s : State) :
    exec (.rspLong idx hi lo stop) s = .next (s.runFrame .longResponse (bitsOf (pack136 idx hi lo stop))) := rfl

/-- Settles O43: the exchange of a 48-bit frame with the class Command. -/
theorem hostCommandExchange : Obligations.HostCommandExchange := by
  unfold Obligations.HostCommandExchange
  intro n arg crc stop s u ends hwalk hcancel
  obtain ⟨o, hrun, hvisible⟩ := State.exchange48_of_room (cls := .command) rfl (dir := 1) (idx := n) (arg := arg)
    (crc := crc) (stop := stop) hwalk hcancel
  exact ⟨o, (exec_hostCommand n arg crc stop s).trans (congrArg Host.Outcome.next hrun), hvisible⟩

/-- Settles O44: the exchange of a 48-bit frame with the class AppCommand. -/
theorem appCommandExchange : Obligations.AppCommandExchange := by
  unfold Obligations.AppCommandExchange
  intro n arg crc stop i s u ends hi hwalk hcancel
  obtain ⟨o, hrun, hvisible⟩ := State.exchange48_of_room (cls := .appCommand) rfl (dir := 1) (idx := n) (arg := arg)
    (crc := crc) (stop := stop) hwalk hcancel
  exact ⟨o, (exec_of_appCommand hi s).trans (congrArg Host.Outcome.next hrun), hvisible⟩

/-- Settles O45: the exchange of a 48-bit frame with the class Response. -/
theorem responseExchange : Obligations.ResponseExchange := by
  unfold Obligations.ResponseExchange
  intro idx arg crc stop s u ends hwalk hcancel
  obtain ⟨o, hrun, hvisible⟩ := State.exchange48_of_room (cls := .response) rfl (dir := 0) (idx := idx) (arg := arg)
    (crc := crc) (stop := stop) hwalk hcancel
  exact ⟨o, (exec_rsp idx arg crc stop s).trans (congrArg Host.Outcome.next hrun), hvisible⟩

/-- Settles O46: the exchange of a 136-bit frame. -/
theorem longResponseExchange : Obligations.LongResponseExchange := by
  unfold Obligations.LongResponseExchange
  intro idx hi lo stop s u ends hwalk hcancel
  obtain ⟨o, hrun, hvisible⟩ := State.exchange136_of_room (idx := idx) (hi := hi) (lo := lo) (stop := stop) hwalk hcancel
  exact ⟨o, (exec_rspLong idx hi lo stop s).trans (congrArg Host.Outcome.next hrun), hvisible⟩

end Sys2Proof.Machine
end

section
/-! PROOFS. What a presented frame has in common with the bits of the command line (log 5, log 19): two exchanges compared bit by
bit, the number of bits an exchange takes, and the run that takes them from the lines. -/

namespace Sys2Proof.Machine

/-! Two exchanges compared. -/

theorem State.eq_cycled_of_fsmCycle {f : FrameState} {s t : State} {c : Cycle} (h : s.fsmCycle f = .ok c t) :
    t = s.cycled c t := by
  cases f with
  | startBit => exact State.eq_cycled_of_startCycle h
  | direction | commandField | argumentField | crc7 | stop => exact State.eq_cycled_of_cycle h

/-- The state after the action of the sub-state `f` on a bit of the cycle `c`, from the cursors of that cycle on. -/
def State.acted (s : State) (f : FrameState) (cls : Option FrameClass) (c : Cycle) : State :=
  (s.fsmAction f cls c).2.afterFsm (s.fsmAction f cls c).1

theorem State.analyze_of_signal {f : FrameState} {sup : Option SuppliedBit} {s t : State} {x : Signal}
    (h : s.fsmCycle f = .signal x t) : s.analyze f sup = t.terminate x.reason := by
  rw [State.analyze_eq, State.fsmStep_eq, h]

/-- A bit of each of two exchanges from one state: they are the same if they are the same after the bit's cycle. -/
theorem State.exchangeRest_congr {cls₁ cls₂ : Option FrameClass} {b₁ b₂ : Bool} {bits₁ bits₂ : List Bool} {s : State}
    (h : s.phase = .analyzeCommand → ∀ c t,
      ((s.taken.cycled c t).acted s.frameState cls₁ { c with bit := b₁ }).exchangeRest cls₁ bits₁ =
        ((s.taken.cycled c t).acted s.frameState cls₂ { c with bit := b₂ }).exchangeRest cls₂ bits₂) :
    s.exchangeRest cls₁ (b₁ :: bits₁) = s.exchangeRest cls₂ (b₂ :: bits₂) := by
  by_cases hphase : s.phase = .analyzeCommand
  · by_cases hcancel : s.cancelRequest = true
    · simp only [State.exchangeRest, if_pos hphase, if_pos hcancel]
    · simp only [State.exchangeRest, if_pos hphase, if_neg hcancel]
      cases hcycle : s.taken.fsmCycle s.frameState with
      | signal x t =>
        have hterminated : (t.terminate x.reason).phase ≠ .analyzeCommand := by simp
        rw [State.analyze_of_signal hcycle, State.analyze_of_signal hcycle, State.exchangeRest_left _ _ _ hterminated,
          State.exchangeRest_left _ _ _ hterminated]
      | ok c t =>
        rw [State.analyze_of_fsmCycle hcycle, State.analyze_of_fsmCycle hcycle]
        have hsame := h hphase c t
        rw [← State.eq_cycled_of_fsmCycle hcycle] at hsame
        exact hsame
  · rw [State.exchangeRest_left _ _ _ hphase, State.exchangeRest_left _ _ _ hphase]

/-! The bits that an exchange takes. -/

/-- The bits after the CommandField: a long argument and the stop bit, or an argument, a CRC7 and the stop bit. -/
def argumentBits (long : Bool) : Nat := if long then 128 else 40

/-- The bits still to be taken up to the stop bit, for a class with a long argument or not. -/
def State.bitsLeft (long : Bool) (s : State) : Nat :=
  match s.frameState with
  | .startBit => 8 + argumentBits long
  | .direction => 7 + argumentBits long
  | .commandField => s.countdown.toNat + argumentBits long
  | .argumentField => s.countdown.toNat + if s.respLong then 1 else 8
  | .crc7 => s.countdown.toNat + 1
  | .stop => 1

/-- A field that takes several bits has one still to come. -/
def State.counting (s : State) : Prop := s.inField = true → s.countdown ≠ 0

theorem toNat_sub_one {v : BitVec 8} (h : v ≠ 0) : (v - 1).toNat + 1 = v.toNat := by
  have hpos : v.toNat ≠ 0 := fun h0 => h (BitVec.eq_of_toNat_eq h0)
  have hle : (1 : BitVec 8) ≤ v := by
    rw [BitVec.le_def]
    change 1 ≤ v.toNat
    omega
  rw [BitVec.toNat_sub_of_le hle]
  change v.toNat - 1 + 1 = v.toNat
  omega

theorem State.shiftIn_frameState (s : State) (b : Bool) : (s.shiftIn b).frameState = s.frameState := rfl

/-- A completed field: the next sub-state has its bits to come. -/
theorem State.completeField_bitsLeft {cls : FrameClass} {e : Nat} {s : State} (hfield : s.inField = true)
    (hcount : s.countdown = 0) :
    (s.completeField (some cls) e).bitsLeft cls.isLong = s.bitsLeft cls.isLong ∧
      (s.completeField (some cls) e).counting ∧ (s.completeField (some cls) e).frameState ≠ .startBit := by
  unfold State.counting
  cases hf : s.frameState with
  | startBit | direction | stop => simp [State.inField, hf] at hfield
  | commandField =>
    simp only [State.completeField, hf, State.completeCommand_eq, Option.getD_some, State.bitsLeft, State.inField, hcount]
    cases cls <;> exact ⟨rfl, fun _ => by decide, nofun⟩
  | argumentField =>
    simp only [State.completeField, hf, State.bitsLeft, State.inField, hcount]
    cases s.respLong with
    | true => exact ⟨rfl, nofun, nofun⟩
    | false => exact ⟨rfl, fun _ => (by decide : (7 : BitVec 8) ≠ 0), nofun⟩
  | crc7 =>
    simp only [State.completeField, hf, State.bitsLeft, State.inField, hcount]
    exact ⟨rfl, nofun, nofun⟩

/-- Each bit but the stop bit leaves one fewer to take. -/
theorem State.acted_bitsLeft {cls : FrameClass} {c : Cycle} {s : State} (hcount : s.counting)
    (hstart : s.frameState ≠ .startBit) (hstop : s.frameState ≠ .stop) :
    (s.acted s.frameState (some cls) c).bitsLeft cls.isLong + 1 = s.bitsLeft cls.isLong ∧
      (s.acted s.frameState (some cls) c).counting ∧ (s.acted s.frameState (some cls) c).frameState ≠ .startBit := by
  by_cases hfield : s.inField = true
  · have hmore := toNat_sub_one (hcount hfield)
    rw [State.acted, State.fsmAction_of_field hfield]
    have hshift : (s.shiftIn c.bit).bitsLeft cls.isLong + 1 = s.bitsLeft cls.isLong := by
      unfold State.bitsLeft
      unfold State.inField at hfield
      rw [State.shiftIn_frameState]
      cases hf : s.frameState with
      | startBit | direction | stop => rw [hf] at hfield; cases hfield
      | commandField | argumentField | crc7 =>
        change (s.countdown - 1).toNat + _ + 1 = _
        simp only
        exact (by omega : ∀ k : Nat, (s.countdown - 1).toNat + k + 1 = s.countdown.toNat + k) _
    have hshiftField : (s.shiftIn c.bit).inField = true := hfield
    split
    · next hlast =>
      have hdone : (s.shiftIn c.bit).countdown = 0 := sub_eq_zero.2 hlast
      obtain ⟨hleft, hcounting, hframe⟩ := State.completeField_bitsLeft (cls := cls) (e := c.cycleEnd) hshiftField hdone
      exact ⟨(congrArg (· + 1) hleft).trans hshift, hcounting, hframe⟩
    · next hmore => exact ⟨hshift, fun _ => mt sub_eq_zero.1 hmore, hstart⟩
  · cases hf : s.frameState with
    | startBit => exact absurd hf hstart
    | stop => exact absurd hf hstop
    | commandField | argumentField | crc7 => simp [State.inField, hf] at hfield
    | direction =>
      rw [State.acted, State.fsmAction, State.directionAction_eq]
      refine ⟨?_, fun _ => (by decide : (6 : BitVec 8) ≠ 0), nofun⟩
      simp only [State.bitsLeft, hf, State.afterFsm]
      exact (by omega : ∀ k : Nat, 6 + k + 1 = 7 + k) _

/-- The cycle of a bit changes no register. -/
theorem State.bitsLeft_cycled {long : Bool} {s t : State} {c : Cycle} :
    (s.taken.cycled c t).bitsLeft long = s.bitsLeft long := rfl

/-! The stop bit. -/

theorem State.acted_stop (s : State) (cls : Option FrameClass) (c : Cycle) (b : Bool) :
    s.acted .stop cls { c with bit := b } = s.acted .stop cls c := by
  rw [State.acted, State.acted, State.fsmAction, State.fsmAction, State.stopAction_eq, State.stopAction_eq]

theorem State.frameState_of_bitsLeft {long : Bool} {s : State} (hcount : s.counting) (hleft : s.bitsLeft long = 1) :
    s.frameState = .stop := by
  have hpos : s.inField = true → 0 < s.countdown.toNat := fun hfield =>
    Nat.pos_of_ne_zero fun h0 => hcount hfield (BitVec.eq_of_toNat_eq h0)
  unfold State.bitsLeft argumentBits at hleft
  unfold State.inField at hpos
  cases hf : s.frameState with
  | stop => rfl
  | startBit | direction => rw [hf] at hleft; cases long <;> simp at hleft
  | commandField | argumentField =>
    rw [hf] at hleft hpos
    simp only [forall_const] at hleft hpos
    split at hleft <;> omega
  | crc7 =>
    rw [hf] at hleft hpos
    simp only [forall_const] at hleft hpos
    omega

/-- Two frames that differ in the stop bit alone make one exchange. -/
theorem State.exchangeRest_stop {cls : FrameClass} {bits : List Bool} {a b : Bool} {s : State} (hcount : s.counting)
    (hstart : s.frameState ≠ .startBit) (hleft : s.bitsLeft cls.isLong = bits.length + 1) :
    s.exchangeRest (some cls) (bits ++ [a]) = s.exchangeRest (some cls) (bits ++ [b]) := by
  induction bits generalizing s with
  | nil =>
    have hstop := State.frameState_of_bitsLeft hcount hleft
    refine State.exchangeRest_congr fun _ c t => ?_
    rw [hstop, State.acted_stop, State.acted_stop _ _ c b]
  | cons d bits ih =>
    refine State.exchangeRest_congr fun _ c t => ?_
    have hstop : s.frameState ≠ .stop := by
      intro hf
      simp [State.bitsLeft, hf] at hleft
    obtain ⟨hleft', hcount', hstart'⟩ := State.acted_bitsLeft (cls := cls) (c := { c with bit := d })
      (s := s.taken.cycled c t) hcount hstart hstop
    refine ih hcount' hstart' ?_
    have : (s.taken.cycled c t).bitsLeft cls.isLong = s.bitsLeft cls.isLong := rfl
    rw [List.length_cons] at hleft
    have hf : (s.taken.cycled c t).frameState = s.frameState := rfl
    rw [hf] at hleft'
    omega

theorem State.exchange_stop {cls : FrameClass} {bits : List Bool} {a b : Bool} (s : State)
    (hlength : bits.length + 1 = 7 + argumentBits cls.isLong) :
    s.exchange (some cls) (false :: (bits ++ [a])) = s.exchange (some cls) (false :: (bits ++ [b])) := by
  rw [State.exchange, State.exchange]
  generalize ({ s with phase := .analyzeCommand, frameState := .startBit } : State) = u
  cases hcycle : u.fsmCycle .startBit with
  | signal x t =>
    have hterminated : (t.terminate x.reason).phase ≠ .analyzeCommand := by simp
    rw [State.analyze_of_signal hcycle, State.exchangeRest_left _ _ _ hterminated,
      State.exchangeRest_left _ _ _ hterminated]
  | ok c t =>
    have haction := State.startBitAction_of_low (c := { c with bit := false }) (s := t) rfl
    rw [State.analyze_of_fsmCycle hcycle]
    simp only [Option.map_some, Option.getD_some, State.fsmAction, haction]
    exact State.exchangeRest_stop nofun nofun hlength.symm

theorem State.runFrame_stop48 {cls : FrameClass} (hcls : cls.isLong = false) (dir : BitVec 1) (idx : BitVec 6)
    (arg : BitVec 32) (crc : BitVec 7) (a b : BitVec 1) (s : State) :
    s.runFrame cls (bitsOf (pack48 dir idx arg crc a)) = s.runFrame cls (bitsOf (pack48 dir idx arg crc b)) := by
  have hsame := State.exchange_stop (cls := cls) (bits := dir.msb :: (bitsOf idx ++ (bitsOf arg ++ bitsOf crc)))
    (a := a.msb) (b := b.msb) s (by simp [hcls, argumentBits])
  simpa only [State.runFrame, bitsOf_pack48, List.append_assoc, List.cons_append] using hsame

/-- Settles O47: the action of Stop does not look at its bit, and no other bit differs. -/
theorem stopBitIsNotExamined : Obligations.StopBitIsNotExamined := by
  unfold Obligations.StopBitIsNotExamined
  intro n arg crc hi lo a b s
  refine ⟨?_, fun i j hi hj => ?_, ?_, ?_⟩
  · rw [exec_hostCommand, exec_hostCommand, hostFrame, hostFrame,
      State.runFrame_stop48 (cls := .command) rfl 1 n arg crc a b]
  · rw [exec_of_appCommand hi, exec_of_appCommand hj, hostFrame, hostFrame,
      State.runFrame_stop48 (cls := .appCommand) rfl 1 n arg crc a b]
  · rw [exec_rsp, exec_rsp, responseFrame, responseFrame, State.runFrame_stop48 (cls := .response) rfl 0 n arg crc a b]
  · have hsame := State.exchange_stop (cls := .longResponse) (bits := false :: (bitsOf n ++ (bitsOf hi ++ bitsOf lo)))
      (a := a.msb) (b := b.msb) s (by simp [FrameClass.isLong, argumentBits])
    rw [exec_rspLong, exec_rspLong, State.runFrame, State.runFrame, bitsOf_pack136, bitsOf_pack136]
    refine congrArg Host.Outcome.next ?_
    simpa only [List.append_assoc, List.cons_append] using hsame

/-! The exchange of a frame by its first bit. -/

theorem State.exchange_eq_exchangeRest {cls : Option FrameClass} {bits : List Bool} {s : State}
    (hphase : s.phase = .analyzeCommand) (hframe : s.frameState = .startBit) (hcancel : s.cancelRequest = false)
    (hne : bits ≠ []) : s.taken.exchange cls bits = s.exchangeRest cls bits := by
  cases bits with
  | nil => exact absurd rfl hne
  | cons b bits =>
    have hentered : ({ s.taken with phase := .analyzeCommand, frameState := .startBit } : State) = s.taken := by
      rw [← hphase, ← hframe]; rfl
    rw [State.exchange, hentered, State.exchangeRest, if_pos hphase, if_neg (by simp [hcancel]), hframe]

/-! The class of a frame, given with the frame or found by the machine (log 19). -/

/-- A sub-state after the CommandField. -/
def State.classified (s : State) : Prop :=
  s.frameState = .argumentField ∨ s.frameState = .crc7 ∨ s.frameState = .stop

/-- After the CommandField no class is looked at. -/
theorem State.acted_of_classified {cls₁ cls₂ : Option FrameClass} {c : Cycle} {s : State} (h : s.classified) :
    s.acted s.frameState cls₁ c = s.acted s.frameState cls₂ c ∧
      ((s.acted s.frameState cls₂ c).classified ∨ (s.acted s.frameState cls₂ c).phase ≠ .analyzeCommand) := by
  refine ⟨by rcases h with hf | hf | hf <;> rw [hf] <;> rfl, ?_⟩
  by_cases hfield : s.inField = true
  · rw [State.acted, State.fsmAction_of_field hfield]
    left
    split
    · rcases h with hf | hf | hf
      · have hshift : (s.shiftIn c.bit).frameState = .argumentField := hf
        simp only [State.classified, State.afterFsm, State.completeField, hshift]
        cases (s.shiftIn c.bit).respLong <;> simp
      · have hshift : (s.shiftIn c.bit).frameState = .crc7 := hf
        simp [State.classified, State.afterFsm, State.completeField, hshift]
      · simp [State.inField, hf] at hfield
    · exact h
  · right
    rcases h with hf | hf | hf
    · simp [State.inField, hf] at hfield
    · simp [State.inField, hf] at hfield
    · rw [hf, State.acted, State.fsmAction, State.stopAction_eq]
      simp [State.afterFsm]

theorem State.exchangeRest_of_classified {cls₁ cls₂ : Option FrameClass} {bits : List Bool} {s : State}
    (h : s.classified) : s.exchangeRest cls₁ bits = s.exchangeRest cls₂ bits := by
  induction bits generalizing s with
  | nil => rfl
  | cons b bits ih =>
    refine State.exchangeRest_congr fun _ c t => ?_
    obtain ⟨hsame, hnext⟩ := State.acted_of_classified (cls₁ := cls₁) (cls₂ := cls₂) (c := { c with bit := b })
      (s := s.taken.cycled c t) h
    have hf : (s.taken.cycled c t).frameState = s.frameState := rfl
    rw [hf] at hsame hnext
    rw [hsame]
    rcases hnext with hclassified | hleft
    · exact ih hclassified
    · rw [State.exchangeRest_left _ _ _ hleft, State.exchangeRest_left _ _ _ hleft]

theorem State.completeField_of_class {cls : FrameClass} {e : Nat} {s : State} (hframe : s.frameState = .commandField)
    (hcls : s.classify (s.acc.setWidth 6) = cls) :
    s.completeField (some cls) e = s.completeField none e ∧ (s.completeField none e).frameState = .argumentField := by
  simp only [State.completeField, hframe, Option.getD_some, Option.getD_none, hcls, State.completeCommand_eq, and_self]

/-- The bits of a CommandField make the machine find the class `cls`. -/
theorem State.exchangeRest_of_command {cls : FrameClass} {bits : List Bool} {s : State}
    (hframe : s.frameState = .commandField) (hcount : s.countdown ≠ 0)
    (hcls : s.countdown.toNat ≤ bits.length →
      s.classify (((bits.take s.countdown.toNat).foldl shl1 s.acc).setWidth 6) = cls) :
    s.exchangeRest (some cls) bits = s.exchangeRest none bits := by
  induction bits generalizing s with
  | nil => rfl
  | cons b bits ih =>
    refine State.exchangeRest_congr fun hphase c t => ?_
    have hfield : (s.taken.cycled c t).inField = true := by
      have : (s.taken.cycled c t).frameState = .commandField := hframe
      simp [State.inField, this]
    have haction : ∀ cls', (s.taken.cycled c t).fsmAction s.frameState cls' { c with bit := b } = _ := fun cls' =>
      State.fsmAction_of_field (cls := cls') (c := { c with bit := b }) hfield
    have hmore := toNat_sub_one hcount
    rw [State.acted, State.acted, haction, haction]
    have hacc : ((s.taken.cycled c t).shiftIn b).acc = shl1 s.acc b := by
      have hnotLong : (s.taken.cycled c t).savesHigh = false := by
        simp [State.savesHigh, show (s.taken.cycled c t).frameState = .commandField from hframe]
      exact if_neg (by rw [hnotLong]; exact Bool.false_ne_true)
    have hclassify : ∀ v, ((s.taken.cycled c t).shiftIn b).classify v = s.classify v := fun _ => rfl
    simp only
    by_cases hlast : s.countdown = 1
    · have hlast' : (s.taken.cycled c t).countdown = 1 := hlast
      have hone : s.countdown.toNat = 1 := by rw [hlast]; rfl
      rw [hone] at hcls
      obtain ⟨hsame, hnext⟩ := State.completeField_of_class (cls := cls) (e := c.cycleEnd)
        (s := (s.taken.cycled c t).shiftIn b) hframe
        (by rw [hacc, hclassify]; exact hcls (by simp))
      rw [if_pos hlast', if_pos hlast', hsame]
      exact State.exchangeRest_of_classified (.inl hnext)
    · have hmore' : (s.taken.cycled c t).countdown ≠ 1 := hlast
      rw [if_neg hmore', if_neg hmore']
      refine ih hframe (mt sub_eq_zero.1 hlast) fun hle => ?_
      change (s.countdown - 1).toNat ≤ bits.length at hle
      have hall := hcls (by rw [List.length_cons]; omega)
      rw [← hmore, List.take_succ_cons, List.foldl_cons, ← hacc] at hall
      exact hall

theorem State.exchangeRest_of_direction {cls : FrameClass} {d : Bool} {bits : List Bool} {s : State}
    (hframe : s.frameState = .direction)
    (hcls : 6 ≤ bits.length →
      ({ s with dir := d } : State).classify (((bits.take 6).foldl shl1 (0 : Word64)).setWidth 6) = cls) :
    s.exchangeRest (some cls) (d :: bits) = s.exchangeRest none (d :: bits) := by
  refine State.exchangeRest_congr fun _ c t => ?_
  simp only [hframe, State.acted, State.fsmAction, State.directionAction_eq]
  exact State.exchangeRest_of_command rfl (by decide : (6 : BitVec 8) ≠ 0) hcls

/-- With a start bit of 0, the first eight bits make the machine find the class `cls`, as many of them as are given. -/
theorem State.exchangeRest_of_start {cls : FrameClass} {d : Bool} {bits : List Bool} {s : State} (n : Nat)
    (hframe : s.frameState = .startBit)
    (hcls : 6 ≤ bits.length →
      ({ s with dir := d } : State).classify (((bits.take 6).foldl shl1 (0 : Word64)).setWidth 6) = cls) :
    s.exchangeRest (some cls) ((false :: d :: bits).take n) = s.exchangeRest none ((false :: d :: bits).take n) := by
  cases n with
  | zero => rfl
  | succ n =>
    rw [List.take_succ_cons]
    refine State.exchangeRest_congr fun _ c t => ?_
    simp only [hframe, State.acted, State.fsmAction, State.startBitAction_of_low]
    cases n with
    | zero => rfl
    | succ n =>
      rw [List.take_succ_cons]
      refine State.exchangeRest_of_direction rfl fun hle => ?_
      rw [List.length_take] at hle
      rw [List.take_take, Nat.min_eq_left (by omega)]
      exact hcls (by omega)

/-! The run that takes its bits from the command line. -/

theorem run_zero (s : State) : Host.Core.run core 0 s = .next s := rfl

theorem run_succ {s t : State} (h : step s = .next t) (k : Nat) :
    Host.Core.run core (k + 1) s = Host.Core.run core k t := by
  have hcore : core.step s = .next t := h
  simp only [Host.Core.run, hcore]

theorem run_of_terminated {s : State} (h : s.phase = .terminated) (k : Nat) : Host.Core.run core k s = .next s := by
  induction k with
  | zero => rfl
  | succ k ih => rw [run_succ (step_of_terminated h), ih]

theorem run_add {s t : State} {j : Nat} (h : Host.Core.run core j s = .next t) (k : Nat) :
    Host.Core.run core (j + k) s = Host.Core.run core k t := by
  induction j generalizing s with
  | zero => rw [run_zero] at h; cases h; rw [Nat.zero_add]
  | succ j ih =>
    cases hstep : step s with
    | fault r =>
      have hcore : core.step s = .fault r := hstep
      simp only [Host.Core.run, hcore] at h
      cases h
    | refused r =>
      have hcore : core.step s = .refused r := hstep
      simp only [Host.Core.run, hcore] at h
      cases h
    | next u =>
      rw [run_succ hstep] at h
      rw [Nat.succ_add, run_succ hstep, ih h]

theorem State.analyze_presented (f : FrameState) (sup : Option SuppliedBit) (s : State) :
    (s.analyze f sup).presented = s.presented := by
  cases hcycle : s.fsmCycle f with
  | signal x t =>
    have hcursors := State.cursorsOnly_of_fsmCycle_signal hcycle
    rw [State.analyze_of_signal hcycle, State.terminate_eq]
    rw [hcursors]
  | ok c t =>
    rw [State.analyze_of_fsmCycle hcycle]
    have ht : t.presented = s.presented := by
      rw [State.eq_cycled_of_fsmCycle hcycle]; rfl
    obtain ⟨f', acc, hi, countdown, nbits, dir, respLong, lastHostCmd, lastHostCmdValid, fieldStart, packetOpen, es, hframe⟩ :=
      State.fsmAction_frame f (sup.bind (·.cls)) { c with bit := (sup.map (·.bit)).getD c.bit } t
    rw [hframe, ← ht]
    generalize (t.fsmAction f (sup.bind (·.cls)) { c with bit := (sup.map (·.bit)).getD c.bit }).1 = r
    cases r <;> rfl

/-- The bit the machine samples next is the one supplied, or its cycle signals. -/
theorem State.analyze_of_nextBit {b : Bool} {s : State} (h : (s.nextBit == some b || s.nextBit == none) = true) :
    s.analyze s.frameState none = s.analyze s.frameState (some ⟨b, none⟩) := by
  cases hcycle : s.fsmCycle s.frameState with
  | signal x t => rw [State.analyze_of_signal hcycle, State.analyze_of_signal hcycle]
  | ok c t =>
    have hbit : c.bit = b := by simpa [State.nextBit, hcycle] using h
    rw [State.analyze_of_fsmCycle hcycle, State.analyze_of_fsmCycle hcycle]
    simp only [Option.bind_none, Option.map_none, Option.getD_none, Option.bind_some, Option.map_some, Option.getD_some, hbit]

theorem State.SameCursors.symm {s t : State} (h : s.SameCursors t) : t.SameCursors s := by
  cases h; constructor <;> symm <;> assumption

theorem State.SameCursors.fsmCycle {s s' t : State} {c : Cycle} {f : FrameState} (h : s.SameCursors s')
    (hsample : s'.cmdStartSample = s.cmdStartSample) (hcycle : s.fsmCycle f = .ok c t) :
    ∃ t', s'.fsmCycle f = .ok c t' := by
  cases f with
  | startBit => exact ⟨_, h.startCycle hsample hcycle⟩
  | direction | commandField | argumentField | crc7 | stop => exact ⟨_, h.cycle hcycle⟩

/-- The bit sampled next does not depend on the inputs of the iteration. -/
theorem State.nextBit_taken (s : State) : s.taken.nextBit = s.nextBit := by
  have hsame : s.SameCursors s.taken := ⟨rfl, rfl, rfl, rfl, rfl⟩
  have hf : s.taken.frameState = s.frameState := rfl
  unfold State.nextBit
  rw [hf]
  cases hcycle : s.fsmCycle s.frameState with
  | ok c t =>
    obtain ⟨t', ht⟩ := hsame.fsmCycle rfl hcycle
    rw [ht]
  | signal x t =>
    cases htaken : s.taken.fsmCycle s.frameState with
    | ok c' t' =>
      obtain ⟨t', ht⟩ := hsame.symm.fsmCycle rfl htaken
      rw [ht] at hcycle
      cases hcycle
    | signal x' t' => rfl

theorem State.carries_take {bits : List Bool} {s : State} (k : Nat) (h : State.carries bits s = true) :
    State.carries (bits.take k) s = true := by
  induction bits generalizing s k with
  | nil => rw [List.take_nil]; rfl
  | cons b bits ih =>
    cases k with
    | zero => rfl
    | succ k =>
      by_cases hphase : s.phase = .analyzeCommand
      · rw [State.carries, if_pos hphase, Bool.and_eq_true] at h
        rw [List.take_succ_cons, State.carries, if_pos hphase, Bool.and_eq_true]
        refine ⟨h.1, ?_⟩
        have hnext := h.2
        cases hstep : step s with
        | next t => rw [hstep] at hnext; exact ih k hnext
        | fault r => rw [hstep] at hnext; cases hnext
        | refused r => rw [hstep] at hnext; cases hnext
      · rw [List.take_succ_cons, State.carries, if_neg hphase]

/-- One step of a run is one bit of the exchange, where the line carries it. -/
theorem State.step_of_carries {b : Bool} {bits : List Bool} {s : State} (hpresented : s.presented = none)
    (hphase : s.phase = .analyzeCommand) (hcarries : State.carries (b :: bits) s = true) :
    ∃ t, step s = .next t ∧ t.presented = none ∧ State.carries bits t = true ∧
      s.exchangeRest none (b :: bits) = t.exchangeRest none bits := by
  rw [State.carries, if_pos hphase, Bool.and_eq_true] at hcarries
  obtain ⟨hbit, hnext⟩ := hcarries
  have hrunning : s.phase ≠ .terminated := by rw [hphase]; exact nofun
  cases hcancel : s.cancelRequest with
  | true =>
    have hstep : step s = .next (s.taken.terminate .cancelled) := by
      rw [step_of_cancelled (by simp [State.cancelled, hphase, hcancel]), State.polled, if_neg hrunning]
    rw [hstep] at hnext
    refine ⟨_, hstep, by simp [State.taken], hnext, ?_⟩
    have hterminated : (s.taken.terminate .cancelled).phase ≠ .analyzeCommand := by simp
    rw [State.exchangeRest, if_pos hphase, if_pos hcancel, State.exchangeRest_left _ _ _ hterminated]
  | false =>
    have hstep : step s = .next (s.taken.analyze s.frameState none) := by
      rw [step_of_control hpresented (by simp [State.cancelled, hcancel]), State.iterate, hphase]
    have hsame : s.taken.analyze s.frameState none = s.taken.analyze s.frameState (some ⟨b, none⟩) :=
      State.analyze_of_nextBit (s := s.taken) (by rwa [State.nextBit_taken])
    rw [hstep] at hnext
    refine ⟨_, hstep, State.analyze_presented _ _ _, hnext, ?_⟩
    rw [State.exchangeRest, if_pos hphase, if_neg (by simp [hcancel]), hsame]

/-- The run takes bits from the line as long as the driver stays in `AnalyzeCommand`, and comes where the exchange of the
bits it has taken comes. -/
theorem State.run_of_carries {bits : List Bool} {s : State} (hpresented : s.presented = none)
    (hcarries : State.carries bits s = true) :
    ∃ k, k ≤ bits.length ∧ Host.Core.run core k s = .next (s.exchangeRest none bits) ∧
      s.exchangeRest none (bits.take k) = s.exchangeRest none bits ∧
      (k = bits.length ∨ (s.exchangeRest none bits).phase ≠ .analyzeCommand) ∧
      (bits ≠ [] → s.phase = .analyzeCommand → 1 ≤ k) ∧
      ∀ j < k, ∃ r, Host.Core.run core j s = .next r ∧ r.phase = .analyzeCommand := by
  induction bits generalizing s with
  | nil => exact ⟨0, le_rfl, rfl, rfl, .inl rfl, fun h => absurd rfl h, fun j hj => absurd hj (Nat.not_lt_zero j)⟩
  | cons b bits ih =>
    by_cases hphase : s.phase = .analyzeCommand
    · obtain ⟨t, hstep, ht, hnext, hsame⟩ := State.step_of_carries hpresented hphase hcarries
      obtain ⟨k, hk, hrun, htake, hend, -, hbefore⟩ := ih ht hnext
      refine ⟨k + 1, by simpa using hk, ?_, ?_, ?_, fun _ _ => Nat.le_add_left 1 k, fun j hj => ?_⟩
      · rw [run_succ hstep, hsame, hrun]
      · obtain ⟨t', hstep', -, -, hsame'⟩ :=
          State.step_of_carries (bits := bits.take k) hpresented hphase (State.carries_take (k + 1) hcarries)
        obtain rfl : t' = t := Host.Outcome.next.inj (hstep'.symm.trans hstep)
        rw [List.take_succ_cons, hsame', htake, hsame]
      · rw [hsame]
        simpa using hend
      · cases j with
        | zero => exact ⟨s, rfl, hphase⟩
        | succ j =>
          obtain ⟨r, hr, hrphase⟩ := hbefore j (by omega)
          exact ⟨r, by rw [run_succ hstep, hr], hrphase⟩
    · have hleft := State.exchangeRest_left none (b :: bits) s hphase
      refine ⟨0, Nat.zero_le _, by rw [hleft]; rfl, by rw [hleft]; rfl, .inr (by rwa [hleft]), fun _ h => absurd h hphase,
        fun j hj => absurd hj (Nat.not_lt_zero j)⟩

/-! An exchange that does not take all its bits ends the run. -/

theorem State.acted_phase {cls : Option FrameClass} {c : Cycle} {s : State} (hstart : s.frameState ≠ .startBit)
    (hstop : s.frameState ≠ .stop) : (s.acted s.frameState cls c).phase = .analyzeCommand := by
  by_cases hfield : s.inField = true
  · rw [State.acted, State.fsmAction_of_field hfield]; rfl
  · cases hf : s.frameState with
    | startBit => exact absurd hf hstart
    | stop => exact absurd hf hstop
    | commandField | argumentField | crc7 => simp [State.inField, hf] at hfield
    | direction => rw [State.acted, State.fsmAction, State.directionAction_eq]; rfl

/-- A bit of an exchange is taken in its cycle, or the run ends. -/
theorem State.exchangeRest_cons_cases (cls : Option FrameClass) (b : Bool) (bits : List Bool) {s : State}
    (hphase : s.phase = .analyzeCommand) :
    (s.exchangeRest cls (b :: bits)).phase = .terminated ∨
      ∃ c t, s.exchangeRest cls (b :: bits) =
        ((s.taken.cycled c t).acted s.frameState cls { c with bit := b }).exchangeRest cls bits := by
  by_cases hcancel : s.cancelRequest = true
  · left
    rw [State.exchangeRest, if_pos hphase, if_pos hcancel]
    rfl
  · rw [State.exchangeRest, if_pos hphase, if_neg hcancel]
    cases hcycle : s.taken.fsmCycle s.frameState with
    | signal x t =>
      left
      have hterminated : (t.terminate x.reason).phase ≠ .analyzeCommand := by simp
      rw [State.analyze_of_signal hcycle, State.exchangeRest_left _ _ _ hterminated]
      simp
    | ok c t =>
      right
      refine ⟨c, t, ?_⟩
      rw [State.analyze_of_fsmCycle hcycle, ← State.eq_cycled_of_fsmCycle hcycle]
      rfl

/-- As long as bits are left to take, the driver stays in `AnalyzeCommand` or the run ends. -/
theorem State.exchangeRest_of_bitsLeft {cls : FrameClass} {bits : List Bool} {s : State} (hcount : s.counting)
    (hstart : s.frameState ≠ .startBit) (hphase : s.phase = .analyzeCommand)
    (hleft : bits.length < s.bitsLeft cls.isLong) :
    (s.exchangeRest (some cls) bits).phase = .analyzeCommand ∨ (s.exchangeRest (some cls) bits).phase = .terminated := by
  induction bits generalizing s with
  | nil => exact .inl hphase
  | cons b bits ih =>
    obtain hover | ⟨c, t, hnext⟩ := State.exchangeRest_cons_cases (some cls) b bits hphase
    · exact .inr hover
    · have hstop : s.frameState ≠ .stop := by
        intro hf
        simp [State.bitsLeft, hf] at hleft
      obtain ⟨hleft', hcount', hstart'⟩ := State.acted_bitsLeft (cls := cls) (c := { c with bit := b })
        (s := s.taken.cycled c t) hcount hstart hstop
      have hphase' := State.acted_phase (cls := some cls) (c := { c with bit := b }) (s := s.taken.cycled c t) hstart hstop
      have hsame : (s.taken.cycled c t).bitsLeft cls.isLong = s.bitsLeft cls.isLong := State.bitsLeft_cycled
      rw [hnext]
      refine ih hcount' hstart' hphase' ?_
      rw [List.length_cons] at hleft
      have hf : (s.taken.cycled c t).frameState = s.frameState := rfl
      rw [hf] at hleft'
      omega

/-- The same from the start bit of the frame on. -/
theorem State.exchangeRest_of_shorter {cls : FrameClass} {bits : List Bool} {k : Nat} {s : State}
    (hframe : s.frameState = .startBit) (hphase : s.phase = .analyzeCommand)
    (hk : k < 8 + argumentBits cls.isLong) :
    (s.exchangeRest (some cls) ((false :: bits).take k)).phase = .analyzeCommand ∨
      (s.exchangeRest (some cls) ((false :: bits).take k)).phase = .terminated := by
  cases k with
  | zero => exact .inl hphase
  | succ k =>
    rw [List.take_succ_cons]
    obtain hover | ⟨c, t, hnext⟩ := State.exchangeRest_cons_cases (some cls) false (bits.take k) hphase
    · exact .inr hover
    · rw [hnext, hframe, State.acted, State.fsmAction, State.startBitAction_of_low rfl]
      refine State.exchangeRest_of_bitsLeft nofun nofun rfl ?_
      have hlength := List.length_take_le k bits
      change _ < 7 + argumentBits cls.isLong
      omega

/-! A frame that decodes: its class is the one its own first bits select (log 19). -/

/-- The bits of a frame of the class `cls`, whose CommandField the machine would classify so. -/
structure State.FrameOf (s : State) (cls : FrameClass) (bits : List Bool) : Prop where
  length : bits.length = 8 + argumentBits cls.isLong
  classified : ∃ d rest, bits = false :: d :: rest ∧
    ({ s with dir := d } : State).classify (((rest.take 6).foldl shl1 (0 : Word64)).setWidth 6) = cls

theorem index_of_bits (idx : BitVec 6) (rest : List Bool) :
    (((bitsOf idx ++ rest).take 6).foldl shl1 (0 : Word64)).setWidth 6 = idx := by
  rw [List.take_left' (bitsOf_length idx), foldl_shl1_bitsOf, BitVec.setWidth_setWidth_of_le _ (by omega),
    BitVec.setWidth_eq]

theorem State.frameOf_pack48 {s : State} {cls : FrameClass} (hcls : cls.isLong = false) {dir : BitVec 1} {idx : BitVec 6}
    (hclassify : ({ s with dir := dir.msb } : State).classify idx = cls) (arg : BitVec 32) (crc : BitVec 7)
    (stop : BitVec 1) : s.FrameOf cls (bitsOf (pack48 dir idx arg crc stop)) :=
  ⟨by rw [bitsOf_length, hcls]; rfl, _, _, bitsOf_pack48 dir idx arg crc stop, by rw [index_of_bits]; exact hclassify⟩

theorem State.frameOf_pack136 {s : State} {idx : BitVec 6}
    (hclassify : ({ s with dir := false } : State).classify idx = .longResponse) (hi : BitVec 64) (lo : BitVec 63)
    (stop : BitVec 1) : s.FrameOf .longResponse (bitsOf (pack136 idx hi lo stop)) :=
  ⟨by rw [bitsOf_length]; rfl, _, _, bitsOf_pack136 idx hi lo stop, by rw [index_of_bits]; exact hclassify⟩

theorem appCommand_isSome (n : BitVec 6) (arg : BitVec 32) (crc : BitVec 7) (stop : BitVec 1) :
    (appCommand n arg crc stop).isSome = Config.ACMD_SET.contains n := by
  obtain ⟨k, hk⟩ := n
  interval_cases k <;> rfl

/-- A decoded 48-bit frame runs as a frame of its class. -/
theorem State.frameOf_of_decode48 {s : State} {i : Instr} {w : BitVec 48} (h : decode48 s.context w = .ok i) :
    ∃ cls, s.FrameOf cls (bitsOf w) ∧ ∀ t, exec i t = .next (t.runFrame cls (bitsOf w)) := by
  by_cases hstart : start48 w = 1
  · simp [decode48, hstart] at h
  have hfields := pack48_fields (eq_zero_of_ne_one hstart)
  rw [decode48, if_neg hstart] at h
  by_cases hdir : dir48 w = 1
  · rw [if_pos hdir] at h
    rw [hdir] at hfields
    have hsome := appCommand_isSome (index48 w) (arg48 w) (crc48 w) (stop48 w)
    cases hrow : (if s.context.appPrefix then appCommand (index48 w) (arg48 w) (crc48 w) (stop48 w) else none) with
    | some j =>
      obtain ⟨hprefix, happ⟩ :
          s.context.appPrefix = true ∧ appCommand (index48 w) (arg48 w) (crc48 w) (stop48 w) = some j := by
        simpa using hrow
      obtain rfl : j = i := by simpa [hrow] using h
      have hclass : s.isAppCommand (index48 w) = true := by
        rw [State.isAppCommand, hprefix, ← hsome, happ]; rfl
      refine ⟨.appCommand, ?_, fun t => ?_⟩
      · rw [← hfields]
        exact State.frameOf_pack48 rfl ((State.classify_of_host rfl).trans (if_pos hclass)) _ _ _
      · rw [exec_of_appCommand happ, hostFrame, hfields]
    | none =>
      obtain rfl : hostCommand (index48 w) (arg48 w) (crc48 w) (stop48 w) = i := by simpa [hrow] using h
      have hclass : ¬ s.isAppCommand (index48 w) = true := by
        rw [State.isAppCommand, Bool.and_eq_true, ← hsome]
        rintro ⟨hprefix, happ⟩
        rw [if_pos hprefix] at hrow
        simp [hrow] at happ
      refine ⟨.command, ?_, fun t => ?_⟩
      · rw [← hfields]
        exact State.frameOf_pack48 rfl ((State.classify_of_host rfl).trans (if_neg hclass)) _ _ _
      · rw [exec_hostCommand, hostFrame, hfields]
  · rw [if_neg hdir] at h
    obtain ⟨hlong, rfl⟩ :
        s.context.longResponse = false ∧ Instr.rsp (index48 w) (arg48 w) (crc48 w) (stop48 w) = i := by
      cases hlong : s.context.longResponse <;> simp_all
    rw [eq_zero_of_ne_one hdir] at hfields
    refine ⟨.response, ?_, fun t => ?_⟩
    · rw [← hfields]
      refine State.frameOf_pack48 rfl ((State.classify_of_response rfl).trans (if_neg ?_)) _ _ _
      exact Bool.not_eq_true _ ▸ hlong
    · rw [exec_rsp, responseFrame, hfields]

theorem State.frameOf_of_decode136 {s : State} {i : Instr} {w : BitVec 136} (h : decode136 s.context w = .ok i) :
    ∃ cls, s.FrameOf cls (bitsOf w) ∧ ∀ t, exec i t = .next (t.runFrame cls (bitsOf w)) := by
  unfold decode136 at h
  split_ifs at h with hstart hdir hlong
  cases h
  have hfields := pack136_fields (eq_zero_of_ne_one hstart) (eq_zero_of_ne_one hdir)
  refine ⟨.longResponse, ?_, fun t => ?_⟩
  · rw [← hfields]
    exact State.frameOf_pack136 ((State.classify_of_response rfl).trans (if_pos hlong)) _ _ _
  · rw [exec_rspLong, hfields]

theorem State.FrameOf.exchangeRest {s : State} {cls : FrameClass} {bits : List Bool} (h : s.FrameOf cls bits)
    (hframe : s.frameState = .startBit) (n : Nat) :
    s.exchangeRest (some cls) (bits.take n) = s.exchangeRest none (bits.take n) := by
  obtain ⟨-, d, rest, rfl, hcls⟩ := h
  exact State.exchangeRest_of_start n hframe fun _ => hcls

/-! The step with a frame presented. -/

theorem State.exchangeRest_of_cancel {cls : Option FrameClass} {bits : List Bool} {s : State}
    (hphase : s.phase = .analyzeCommand) (hcancel : s.cancelRequest = true) (hne : bits ≠ []) :
    s.exchangeRest cls bits = s.taken.terminate .cancelled := by
  cases bits with
  | nil => exact absurd rfl hne
  | cons b bits => rw [State.exchangeRest, if_pos hphase, if_pos hcancel]

/-- The step of a presented frame is the exchange of its bits, each classified by the machine itself. -/
theorem State.step_of_presented {s : State} {u : BusUnit} {bits : List Bool} (hphase : s.phase = .analyzeCommand)
    (hframe : s.frameState = .startBit) (hne : bits ≠ [])
    (hrows : ∀ i, decode s.context u = .ok i →
      ∃ cls, s.FrameOf cls bits ∧ ∀ t, exec i t = .next (t.runFrame cls bits))
    (hunmatched : ∀ t : State, t.runUnmatched u = .next (t.exchange none bits)) :
    step { s with presented := some u } = .next (s.exchangeRest none bits) := by
  have hrunning : s.phase ≠ .terminated := by rw [hphase]; exact nofun
  have hpolled : ({ s with presented := some u } : State).polled = s.taken := if_neg hrunning
  have hunit : ({ s with presented := some u } : State).fetchUnit = u := State.fetchUnit_of_running hrunning
  have hcancelled : ({ s with presented := some u } : State).cancelled = s.cancelRequest := by
    change (_ && _) = _
    simp [State.cancelRequest, hphase]
  cases hcancel : s.cancelRequest with
  | true => rw [step_of_cancelled (by rw [hcancelled, hcancel]), hpolled, State.exchangeRest_of_cancel hphase hcancel hne]
  | false =>
    have hfetch : ({ s with presented := some u } : State).fetch = decode s.context u := by
      rw [State.fetch, hunit]; rfl
    cases hdecode : decode s.context u with
    | ok i =>
      obtain ⟨cls, hof, hexec⟩ := hrows i hdecode
      have hsame := hof.exchangeRest hframe bits.length
      rw [List.take_length] at hsame
      rw [step_of_fetch (hcancelled.trans hcancel) (hfetch.trans hdecode), hpolled, hexec, State.runFrame,
        State.exchange_eq_exchangeRest hphase hframe hcancel hne, hsame]
    | error e =>
      rw [step_of_unmatched (hcancelled.trans hcancel) (hfetch.trans hdecode), hpolled, hunit, hunmatched,
        State.exchange_eq_exchangeRest hphase hframe hcancel hne]

/-- Settles O48: both sides are the exchange of the frame's bits; the run stays where the exchange stops, and a frame that
decodes leaves `AnalyzeCommand` with its last bit or by the end of the run. -/
theorem presentedFrameIsTheSerialExchange : Obligations.PresentedFrameIsTheSerialExchange := by
  unfold Obligations.PresentedFrameIsTheSerialExchange
  intro s u bits hpresented hphase hframe hunit hcarries
  obtain ⟨hne, hrows, hunmatched⟩ : bits ≠ [] ∧
      (∀ i, decode s.context u = .ok i → ∃ cls, s.FrameOf cls bits ∧ ∀ t, exec i t = .next (t.runFrame cls bits)) ∧
      ∀ t : State, t.runUnmatched u = .next (t.exchange none bits) := by
    obtain ⟨w, rfl, rfl⟩ | ⟨w, rfl, rfl⟩ := hunit
    · exact ⟨List.ne_nil_of_length_pos (by simp), fun i h => State.frameOf_of_decode48 h, fun _ => rfl⟩
    · exact ⟨List.ne_nil_of_length_pos (by simp), fun i h => State.frameOf_of_decode136 h, fun _ => rfl⟩
  have hstep := State.step_of_presented hphase hframe hne hrows hunmatched
  obtain ⟨k, hk, hrun, htake, hend, hpos, hbefore⟩ := State.run_of_carries hpresented hcarries
  refine ⟨fun i hdecode => ?_, k, _, hpos hne hphase, hk, hrun, hstep, hend, hbefore⟩
  rw [hstep]
  obtain rfl | hlt := hk.eq_or_lt
  · exact hrun.symm
  have hleft := hend.resolve_left hlt.ne
  obtain ⟨cls, hof, -⟩ := hrows i hdecode
  have hterminated : (s.exchangeRest none bits).phase = .terminated := by
    have hsame := hof.exchangeRest hframe k
    rw [← htake, ← hsame] at hleft ⊢
    obtain ⟨hlength, d, rest, rfl, -⟩ := hof
    exact (State.exchangeRest_of_shorter hframe hphase (by omega)).resolve_left hleft
  rw [← Nat.add_sub_cancel' hk, run_add hrun]
  exact (run_of_terminated hterminated _).symm

end Sys2Proof.Machine
end

section
/-! PROOFS. The invariant of the control state (spec/10_state.md section 8), taken apart: what holds at every moment of a run
(`Sound`), outside an exchange (`Idle`), while a block is read (`Reading`) and inside an exchange (`InExchange`); and that
every row leads from one of these to another. -/

namespace Sys2Proof.Machine

/-! The parts of the invariant. -/

/-- What holds of the control state at every moment of a run, whether or not an operation has just signalled. -/
structure State.Sound (s : State) : Prop where
  presented : s.presented = none
  wf : s.cursorsWf = true
  behind : ∀ d ∈ s.dat.toList, d.pos ≤ s.clk.pos
  counters : s.countersOk = true
  units : s.unitCount.toNat ≤ 514

/-- Outside an exchange, with the command start known or not. -/
structure State.Idle (s : State) : Prop where
  sound : s.Sound
  aligned : s.dataAligned = true
  frame : s.frameState = .startBit
  located : s.cmdStartValid = true → s.cmdAtStart = true

/-- Inside a block. -/
structure State.Reading (s : State) : Prop where
  idle : s.Idle
  lines : s.dat ≠ .absent
  level : s.clk.level = s.sampleLevel
  byteStart : s.byteStart ≤ s.clk.pos
  units : s.unitCount.toNat < 514

/-- Between two cycles of an exchange: the cursors stand on a midpoint, and the clock has the edge that ends its cycle. -/
structure State.InExchange (s : State) : Prop where
  sound : s.Sound
  aligned : s.dataAligned = true
  valid : s.cmdStartValid = true
  cmd : s.cmd.pos = s.clk.pos
  level : s.clk.level = s.midLevel
  next : ∃ e es, s.clk.ahead = e :: es ∧ s.fieldStart ≤ e

theorem State.behind_of_aligned {s : State} (h : s.dataAligned = true) : ∀ d ∈ s.dat.toList, d.pos ≤ s.clk.pos :=
  fun d hd => (State.dataAligned_iff.1 h d hd).le

theorem State.dataAtClock_of_running {s : State} (h : s.phase ≠ .terminated) : s.dataAtClock = s.dataAligned :=
  if_neg h

theorem State.controlInv_of_terminated {s : State} (hphase : s.phase = .terminated) (h : s.Sound) : s.ControlInv := by
  refine ⟨h.presented, h.wf, ?_, by rw [State.phaseOk, hphase], h.counters, h.units⟩
  rw [State.dataAtClock, if_pos hphase]
  simpa using h.behind

/-- While a run goes on, the invariant is `Sound`, the alignment of the data cursors, and what the phase asks for. -/
theorem State.controlInv_iff {s : State} (hphase : s.phase ≠ .terminated) :
    s.ControlInv ↔ s.Sound ∧ s.dataAligned = true ∧ s.phaseOk = true := by
  rw [State.ControlInv, State.dataAtClock_of_running hphase]
  constructor
  · rintro ⟨hpresented, hwf, haligned, hok, hcounters, hunits⟩
    exact ⟨⟨hpresented, hwf, State.behind_of_aligned haligned, hcounters, hunits⟩, haligned, hok⟩
  · rintro ⟨hs, haligned, hok⟩
    exact ⟨hs.presented, hs.wf, haligned, hok, hs.counters, hs.units⟩

theorem State.ControlInv.sound {s : State} (h : s.ControlInv) : s.Sound := by
  by_cases hphase : s.phase = .terminated
  · obtain ⟨hpresented, hwf, hbehind, -, hcounters, hunits⟩ := h
    rw [State.dataAtClock, if_pos hphase] at hbehind
    exact ⟨hpresented, hwf, by simpa using hbehind, hcounters, hunits⟩
  · exact ((State.controlInv_iff hphase).1 h).1

theorem State.controlInv_iff_of_findCmdStart {s : State} (hphase : s.phase = .findCmdStart) :
    s.ControlInv ↔ s.Sound ∧ s.dataAligned = true ∧ s.frameState = .startBit := by
  rw [State.controlInv_iff (by rw [hphase]; exact nofun), State.phaseOk, hphase]
  simp

theorem State.controlInv_iff_of_findDataStart {s : State} (hphase : s.phase = .findDataStart) : s.ControlInv ↔ s.Idle := by
  rw [State.controlInv_iff (by rw [hphase]; exact nofun), State.phaseOk, hphase]
  simp only [Bool.and_eq_true, beq_iff_eq, Bool.or_eq_true, Bool.not_eq_true']
  constructor
  · rintro ⟨hs, haligned, hframe, hlocated⟩
    exact ⟨hs, haligned, hframe, fun hv => hlocated.resolve_left (by simp [hv])⟩
  · rintro ⟨hs, haligned, hframe, hlocated⟩
    refine ⟨hs, haligned, hframe, ?_⟩
    cases hv : s.cmdStartValid with
    | false => exact .inl rfl
    | true => exact .inr (hlocated hv)

theorem State.controlInv_iff_of_readData {s : State} (hphase : s.phase = .readData) : s.ControlInv ↔ s.Reading := by
  rw [State.controlInv_iff (by rw [hphase]; exact nofun), State.phaseOk, hphase]
  simp only [Bool.and_eq_true, beq_iff_eq, bne_iff_ne, decide_eq_true_eq, Bool.or_eq_true, Bool.not_eq_true']
  constructor
  · rintro ⟨hs, haligned, ⟨⟨⟨⟨hframe, hlocated⟩, hlines⟩, hlevel⟩, hbyte⟩, hunits⟩
    exact ⟨⟨hs, haligned, hframe, fun hv => hlocated.resolve_left (by simp [hv])⟩, hlines, hlevel, hbyte, hunits⟩
  · rintro ⟨⟨hs, haligned, hframe, hlocated⟩, hlines, hlevel, hbyte, hunits⟩
    refine ⟨hs, haligned, ⟨⟨⟨⟨hframe, ?_⟩, hlines⟩, hlevel⟩, hbyte⟩, hunits⟩
    cases hv : s.cmdStartValid with
    | false => exact .inl rfl
    | true => exact .inr (hlocated hv)

theorem State.controlInv_iff_of_startBit {s : State} (hphase : s.phase = .analyzeCommand) (hframe : s.frameState = .startBit) :
    s.ControlInv ↔ s.Idle ∧ s.cmdStartValid = true := by
  rw [State.controlInv_iff (by rw [hphase]; exact nofun), State.phaseOk, hphase, hframe]
  simp only [Bool.and_eq_true]
  constructor
  · rintro ⟨hs, haligned, hvalid, hlocated⟩
    exact ⟨⟨hs, haligned, hframe, fun _ => hlocated⟩, hvalid⟩
  · rintro ⟨⟨hs, haligned, -, hlocated⟩, hvalid⟩
    exact ⟨hs, haligned, hvalid, hlocated hvalid⟩

theorem State.controlInv_iff_of_exchange {s : State} (hphase : s.phase = .analyzeCommand) (hframe : s.frameState ≠ .startBit) :
    s.ControlInv ↔ s.InExchange := by
  have hok : s.phaseOk = true ↔ s.cmdStartValid = true ∧ s.cmd.pos = s.clk.pos ∧ s.clk.level = s.midLevel ∧
      ∃ e es, s.clk.ahead = e :: es ∧ s.fieldStart ≤ e := by
    rw [State.phaseOk, hphase]
    cases hf : s.frameState with
    | startBit => exact absurd hf hframe
    | direction | commandField | argumentField | crc7 | stop =>
      simp only [Bool.and_eq_true, decide_eq_true_eq, beq_iff_eq, and_assoc]
      cases s.clk.ahead with
      | nil => simp
      | cons e es => simp
  rw [State.controlInv_iff (by rw [hphase]; exact nofun), hok]
  exact ⟨fun ⟨hs, haligned, hvalid, hcmd, hlevel, hnext⟩ => ⟨hs, haligned, hvalid, hcmd, hlevel, hnext⟩,
    fun h => ⟨h.sound, h.aligned, h.valid, h.cmd, h.level, h.next⟩⟩

theorem State.cmdAtStart_iff {s : State} :
    s.cmdAtStart = true ↔ s.cmd.pos = s.cmdStartSample ∧ s.cmd.level = false ∧ s.cmd.pos ∈ s.cmd.line.edges := by
  simp [State.cmdAtStart, and_assoc]

/-! Sound states stay sound while the cursors move forward inside the capture. -/

section
variable {s : State} {q : Nat}

theorem State.Sound.clk_wf (h : s.Sound) : s.clk.wf s.nSamples = true := (State.cursorsWf_iff.1 h.wf).2.1

theorem State.Sound.cmd_wf (h : s.Sound) : s.cmd.wf s.nSamples = true := (State.cursorsWf_iff.1 h.wf).2.2.1

theorem State.Sound.clk_lt (h : s.Sound) : s.clk.pos < s.nSamples := (Cursor.wf_iff.1 h.clk_wf).2.1

theorem State.Sound.withClk (h : s.Sound) {c : Cursor} (hwf : c.wf s.nSamples = true) (hpos : s.clk.pos ≤ c.pos) :
    ({ s with clk := c } : State).Sound := by
  obtain ⟨hn, -, hcmd, hdat⟩ := State.cursorsWf_iff.1 h.wf
  exact ⟨h.presented, State.cursorsWf_iff.2 ⟨hn, hwf, hcmd, hdat⟩, fun d hd => (h.behind d hd).trans hpos, h.counters,
    h.units⟩

theorem State.Sound.withCmd (h : s.Sound) {c : Cursor} (hwf : c.wf s.nSamples = true) :
    ({ s with cmd := c } : State).Sound := by
  obtain ⟨hn, hclk, -, hdat⟩ := State.cursorsWf_iff.1 h.wf
  exact ⟨h.presented, State.cursorsWf_iff.2 ⟨hn, hclk, hwf, hdat⟩, h.behind, h.counters, h.units⟩

theorem State.Sound.dataAt (h : s.Sound) (hq : q < s.nSamples) : (s.dataAt q).Sound :=
  ⟨h.presented, State.dataAt_cursorsWf h.wf hq, State.behind_of_aligned (State.dataAt_dataAligned q s), h.counters, h.units⟩

theorem State.Sound.movedTo (h : s.Sound) (hq : q < s.nSamples) : (s.movedTo q).Sound :=
  (h.dataAt hq).withCmd (Cursor.placed_wf (Cursor.wf_iff.1 h.cmd_wf).1 hq)

theorem State.movedTo_aligned (q : Nat) (s : State) : (s.movedTo q).dataAligned = true := State.dataAt_dataAligned q s

theorem State.Sound.taken (h : s.Sound) : s.taken.Sound := ⟨rfl, h.wf, h.behind, h.counters, h.units⟩

theorem State.Sound.terminate (h : s.Sound) (r : Reason) : (s.terminate r).ControlInv := by
  refine State.controlInv_of_terminated (s.terminate_phase r) ?_
  rw [State.terminate_eq]
  exact ⟨h.presented, h.wf, h.behind, h.counters, h.units⟩

end

/-! The bus cycle from a sound state: it has its edges, or it signals the end of the capture (R95, R96, R138). -/

/-- An operation has signalled: the cursors have moved, and nothing else has changed. -/
structure State.Halts (s t : State) : Prop where
  cursors : s.CursorsOnly t
  sound : t.Sound

/-- What the cycle of the sub-state `f` can answer. -/
inductive State.CycleAnswer (s : State) (f : FrameState) : Res Cycle → Prop where
  | ok (m e : Nat) (hclk : s.clk.pos ≤ m) (hcmd : s.cmd.pos ≤ m) (hnext : s.clk.line.nextAfter m e = true)
      (hlevel : s.clk.line.levelAt m = s.midLevel)
      (hlater : f ≠ .startBit → s.clk.pos < m ∧
        (s.clk.level = s.midLevel → ∀ q qs, s.clk.ahead = q :: qs → q < m)) :
      s.CycleAnswer f (.ok { mid := m, cycleEnd := e, bit := s.cmd.line.levelAt m }
        ((s.movedTo m).marker m .sampleEdge .clk))
  | signal (t : State) (ht : s.Halts t) : s.CycleAnswer f (.signal .endOfStream t)

section
variable {s : State}

theorem State.Sound.cellAt (hs : s.Sound) {m e : Nat} (hclk : s.clk.pos ≤ m) (hcmd : s.cmd.pos ≤ m)
    (hnext : s.clk.line.nextAfter m e = true) : s.cellAt m e = true :=
  State.cellAt_iff.2 ⟨hs.wf, hcmd, fun d hd => (hs.behind d hd).trans hclk, hnext⟩

/-- In place, with no clock edge ahead, the cycle end is missing. -/
theorem State.sampleHere_of_noEdge (hs : s.Sound) (hcmd : s.cmd.pos ≤ s.clk.pos) (h : s.clk.ahead = []) :
    s.sampleHere = .signal .endOfStream (s.movedTo s.clk.pos) := by
  obtain ⟨-, hclk, hcmdwf, hdat⟩ := State.cursorsWf_iff.1 hs.wf
  obtain ⟨-, hpos, hlevel⟩ := Cursor.wf_iff.1 hclk
  have hcmdTo : s.cmdTo s.clk.pos = .ok () { s with cmd := .placed s.cmd.line s.clk.pos } :=
    State.cmdTo_ok.2 ⟨_, Cursor.toAbs_of_wf hcmdwf hcmd hpos, rfl⟩
  have hmoved : { s with cmd := .placed s.cmd.line s.clk.pos, dat := s.dat.map (fun d => .placed d.line s.clk.pos) } =
      s.movedTo s.clk.pos := by
    rw [State.movedTo, ← Cursor.eq_placed hlevel]
  have hdatTo : ({ s with cmd := .placed s.cmd.line s.clk.pos } : State).datTo s.clk.pos =
      .ok () (s.movedTo s.clk.pos) :=
    (State.datTo_of_wf (s := { s with cmd := .placed s.cmd.line s.clk.pos }) hdat hs.behind hpos).trans
      (congrArg (Res.ok ()) hmoved)
  have hpeek : (s.movedTo s.clk.pos).clkPeek = .signal .endOfStream (s.movedTo s.clk.pos) := by
    refine State.clkPeek_signal.2 ⟨Cursor.peek_error.2 ⟨?_, rfl⟩, rfl⟩
    rw [State.movedTo, ← Cursor.eq_placed hlevel]
    exact h
  simp only [State.sampleHere, hcmdTo, hdatTo, hpeek, Res.andThen_of_ok, Res.andThen_of_signal]

theorem State.sampleHere_answer (hs : s.Sound) (hcmd : s.cmd.pos ≤ s.clk.pos) (hmid : s.clk.level = s.midLevel) :
    s.CycleAnswer .startBit s.sampleHere := by
  have hlevel := (Cursor.wf_iff.1 hs.clk_wf).2.2
  cases hahead : s.clk.ahead with
  | nil =>
    rw [State.sampleHere_of_noEdge hs hcmd hahead]
    exact .signal _ ⟨rfl, hs.movedTo hs.clk_lt⟩
  | cons e es =>
    have hnext : s.clk.line.nextAfter s.clk.pos e = true := Line.nextAfter_iff.2 ⟨es, hahead⟩
    rw [State.sampleHere_of_cellAt (hs.cellAt le_rfl hcmd hnext)]
    exact .ok _ e le_rfl hcmd hnext (hlevel.symm.trans hmid) fun h => absurd rfl h

/-- From a clock that stands outside the half-period after a midpoint, the next edge is the midpoint. -/
theorem State.toMidpoint_cases (hs : s.Sound) (hcmd : s.cmd.pos ≤ s.clk.pos) (hmid : s.clk.level ≠ s.midLevel) :
    (∃ m e, s.clk.line.nextAfter s.clk.pos m = true ∧ s.clk.line.nextAfter m e = true ∧
        s.clk.line.levelAt m = s.midLevel ∧ s.clk.pos < m) ∨
      ∃ t, (s.clkNextEdge.andThen fun _ u => u.sampleHere) = .signal .endOfStream t ∧ s.Halts t := by
  cases hahead : s.clk.ahead with
  | nil => exact .inr ⟨s, by rw [State.clkNextEdge_of_none hahead, Res.andThen_of_signal], rfl, hs⟩
  | cons m ms =>
    obtain ⟨-, hpos⟩ := Cursor.ahead_cons hahead
    have hwf := (Cursor.nextEdge_of_ahead hs.clk_wf hahead).2
    have hrest := Cursor.ahead_placed (Cursor.wf_iff.1 hs.clk_wf).1 hahead
    cases ms with
    | nil =>
      have hmoved : ({ s with clk := .placed s.clk.line m } : State).Sound := hs.withClk hwf hpos.le
      right
      rw [State.clkNextEdge_of_ahead hs.clk_wf hahead, Res.andThen_of_ok,
        State.sampleHere_of_noEdge hmoved (hcmd.trans hpos.le) hrest]
      exact ⟨_, rfl, rfl, hmoved.movedTo hmoved.clk_lt⟩
    | cons e es =>
      refine .inl ⟨m, e, Line.nextAfter_iff.2 ⟨_, hahead⟩, Line.nextAfter_iff.2 ⟨_, hrest⟩, ?_, hpos⟩
      exact (Cursor.levelAt_of_ahead hs.clk_wf hahead).trans (Bool.not_eq.2 hmid)

theorem State.cycle_answer (f : FrameState) (hs : s.Sound) (hcmd : s.cmd.pos ≤ s.clk.pos) : s.CycleAnswer f s.cycle := by
  by_cases hmid : s.clk.level = s.midLevel
  · cases hahead : s.clk.ahead with
    | nil =>
      have hsignal : s.cycle = .signal .endOfStream s := by
        rw [State.cycle, State.toBoundary, if_pos hmid, State.clkNextEdge_of_none hahead, Res.andThen_of_signal]
      rw [hsignal]
      exact .signal _ ⟨rfl, hs⟩
    | cons b bs =>
      obtain ⟨-, hpos⟩ := Cursor.ahead_cons hahead
      have hwf := (Cursor.nextEdge_of_ahead hs.clk_wf hahead).2
      have hmoved : ({ s with clk := .placed s.clk.line b } : State).Sound := hs.withClk hwf hpos.le
      have hlevel : s.clk.line.levelAt b ≠ s.midLevel := by
        rw [Cursor.levelAt_of_ahead hs.clk_wf hahead, hmid]
        exact Bool.not_ne_self _
      rcases State.toMidpoint_cases hmoved (hcmd.trans hpos.le) hlevel with ⟨m, e, hm, he, hmlevel, hbm⟩ | ⟨t, ht, honly, hsound⟩
      · have hbm : b < m := hbm
        have hcycle : s.cycleAt m e = true := State.cycleAt_iff.2
          ⟨hs.cellAt (hpos.trans hbm).le (hcmd.trans (hpos.trans hbm).le) he,
            by rw [if_pos hmid]; exact ⟨b, Line.nextAfter_iff.2 ⟨_, hahead⟩, hm⟩⟩
        rw [State.cycle_of_cycleAt hcycle]
        refine .ok m e (hpos.trans hbm).le (hcmd.trans (hpos.trans hbm).le) he hmlevel fun _ =>
          ⟨hpos.trans hbm, fun _ q qs hq => ?_⟩
        rw [hahead] at hq
        cases hq
        exact hbm
      · have hsignal : s.cycle = .signal .endOfStream t := by
          rw [State.cycle, State.toBoundary, if_pos hmid, State.clkNextEdge_of_ahead hs.clk_wf hahead, Res.andThen_of_ok]
          exact ht
        rw [hsignal]
        exact .signal _ ⟨honly, hsound⟩
  · rcases State.toMidpoint_cases hs hcmd hmid with ⟨m, e, hm, he, hmlevel, hpos⟩ | ⟨t, ht, hhalts⟩
    · have hcycle : s.cycleAt m e = true := State.cycleAt_iff.2
        ⟨hs.cellAt hpos.le (hcmd.trans hpos.le) he, by rw [if_neg hmid]; exact hm⟩
      rw [State.cycle_of_cycleAt hcycle]
      exact .ok m e hpos.le (hcmd.trans hpos.le) he hmlevel fun _ => ⟨hpos, fun h => absurd h hmid⟩
    · have hsignal : s.cycle = .signal .endOfStream t := by
        rw [State.cycle, State.toBoundary, if_neg hmid, Res.andThen_of_ok]
        exact ht
      rw [hsignal]
      exact .signal _ hhalts

theorem State.startCycle_answer (hs : s.Sound) (hcmd : s.cmd.pos = s.cmdStartSample) :
    s.CycleAnswer .startBit s.startCycle := by
  rw [State.startCycle]
  split_ifs with hbehind hmid
  · have hlt : s.cmdStartSample < s.nSamples := hcmd ▸ (Cursor.wf_iff.1 hs.cmd_wf).2.1
    have hmoved : ({ s with clk := .placed s.clk.line s.cmdStartSample } : State).Sound :=
      hs.withClk (Cursor.placed_wf (Cursor.wf_iff.1 hs.clk_wf).1 hlt) hbehind.le
    rw [State.clkTo_of_wf hs.clk_wf hbehind.le hlt, Res.andThen_of_ok]
    have hanswer := State.cycle_answer .startBit hmoved hcmd.le
    generalize State.cycle { s with clk := .placed s.clk.line s.cmdStartSample } = r at hanswer
    cases hanswer with
    | ok m e hclk hcmdm hnext hlevel _ => exact .ok m e (hbehind.le.trans hclk) hcmdm hnext hlevel fun h => absurd rfl h
    | signal t ht => exact .signal t ⟨by rw [State.CursorsOnly, ht.cursors], ht.sound⟩
  · exact State.sampleHere_answer hs (by omega) hmid
  · exact State.cycle_answer .startBit hs (by omega)

end

end Sys2Proof.Machine
end

section
/-! PROOFS. What the action of a sub-state can do (spec/44_frame_state_machine.md section 2), said once for the invariants; and
that every step keeps the invariant of the control state (spec/10_state.md section 8). -/

namespace Sys2Proof.Machine

/-! The actions of the sub-states. -/

/-- The states `s` and `u` agree on everything but the phase, the FSM's registers, `packet_open` and the output. -/
def State.FsmOnly (s u : State) : Prop :=
  u = { s with
    phase := u.phase, frameState := u.frameState, acc := u.acc, hi := u.hi, countdown := u.countdown, nbits := u.nbits
    dir := u.dir, respLong := u.respLong, lastHostCmd := u.lastHostCmd, lastHostCmdValid := u.lastHostCmdValid
    fieldStart := u.fieldStart, packetOpen := u.packetOpen, out := u.out }

theorem State.acted_fsmOnly (s : State) (f : FrameState) (cls : Option FrameClass) (c : Cycle) :
    s.FsmOnly (s.acted f cls c) := by
  obtain ⟨f', acc, hi, countdown, nbits, dir, respLong, lastHostCmd, lastHostCmdValid, fieldStart, packetOpen, es, hframe⟩ :=
    State.fsmAction_frame f cls c s
  rw [State.FsmOnly, State.acted, hframe]
  generalize (s.fsmAction f cls c).1 = r
  cases r <;> rfl

/-- What the action of the present sub-state leaves: StartBit goes back to the search or confirms the start; a field
completes with a frame, or goes on; Stop ends the exchange. -/
inductive State.ActionAnswer (s : State) (c : Cycle) (u : State) : Prop where
  | abort (hframe : s.frameState = .startBit) (hbit : c.bit = true) (hphase : u.phase = .findCmdStart)
      (hframe' : u.frameState = .startBit) (hopen : u.packetOpen = s.packetOpen)
      (hout : u.out = s.out ++ [.progress s.clk.pos])
  | start (hframe : s.frameState = .startBit) (hphase : u.phase = .analyzeCommand) (hframe' : u.frameState ≠ .startBit)
      (hfield : u.fieldStart = c.cycleEnd) (hopen : u.packetOpen = (s.packetOpen || !s.config.suppressStartStopFrames))
      (hout : u.out = s.out ++ ([.marker s.cmdStartSample .startMark .cmd]
        ++ shown s.config.suppressStartStopFrames (.upTo .start s.cmdStartSample c.cycleEnd 0 0 0)))
  | field (k : FrameKind) (a b : Word64) (flags : Byte) (hkind : k ≠ .start ∧ k ≠ .stop) (hframe : s.frameState ≠ .startBit)
      (hphase : u.phase = .analyzeCommand) (hframe' : u.frameState ≠ .startBit) (hfield : u.fieldStart = c.cycleEnd)
      (hopen : u.packetOpen = true) (hout : u.out = s.out ++ [.addFrame (.upTo k s.fieldStart c.cycleEnd a b flags)])
  | bit (hframe : s.frameState ≠ .startBit) (hphase : u.phase = .analyzeCommand) (hframe' : u.frameState ≠ .startBit)
      (hfield : u.fieldStart = s.fieldStart) (hopen : u.packetOpen = s.packetOpen) (hout : u.out = s.out)
  | stop (hframe : s.frameState = .stop) (hphase : u.phase = .findCmdStart) (hframe' : u.frameState = .startBit)
      (hopen : u.packetOpen = false)
      (hout : u.out = s.out ++ ([.marker c.mid .stopMark .cmd]
        ++ shown s.config.suppressStartStopFrames (.upTo .stop s.fieldStart c.cycleEnd 0 0 0)
        ++ committed (s.packetOpen || !s.config.suppressStartStopFrames) ++ [.progress s.clk.pos]))

theorem State.kind_ne (cls : FrameClass) : cls.kind ≠ .start ∧ cls.kind ≠ .stop := by
  cases cls <;> exact ⟨nofun, nofun⟩

theorem State.completeField_answer {cls : Option FrameClass} {e : Nat} {s : State} (hfield : s.inField = true) :
    (s.completeField cls e).frameState ≠ .startBit ∧ (s.completeField cls e).fieldStart = e ∧
      (s.completeField cls e).packetOpen = true ∧ ∃ k a b flags, (k ≠ .start ∧ k ≠ .stop) ∧
        (s.completeField cls e).out = s.out ++ [.addFrame (.upTo k s.fieldStart e a b flags)] := by
  cases hf : s.frameState with
  | startBit | direction | stop => simp [State.inField, hf] at hfield
  | commandField =>
    simp only [State.completeField, hf, State.completeCommand_eq]
    exact ⟨nofun, trivial, trivial, _, _, _, _, State.kind_ne _, rfl⟩
  | argumentField =>
    simp only [State.completeField, hf]
    cases s.respLong with
    | true => exact ⟨nofun, rfl, rfl, .longArgument, _, _, _, ⟨nofun, nofun⟩, rfl⟩
    | false => exact ⟨nofun, rfl, rfl, .argument, _, _, _, ⟨nofun, nofun⟩, rfl⟩
  | crc7 =>
    simp only [State.completeField, hf]
    exact ⟨nofun, trivial, trivial, .crc7, _, _, _, ⟨nofun, nofun⟩, rfl⟩

theorem State.acted_answer (s : State) (cls : Option FrameClass) (c : Cycle) :
    s.ActionAnswer c (s.acted s.frameState cls c) := by
  by_cases hfield : s.inField = true
  · have hframe : s.frameState ≠ .startBit := by
      intro hf
      simp [State.inField, hf] at hfield
    rw [State.acted, State.fsmAction_of_field hfield]
    split
    · obtain ⟨hframe', hstart, hopen, k, a, b, flags, hkind, hout⟩ :=
        State.completeField_answer (cls := cls) (e := c.cycleEnd) (s := s.shiftIn c.bit) hfield
      exact .field k a b flags hkind hframe rfl hframe' hstart hopen hout
    · exact .bit hframe rfl hframe rfl rfl rfl
  · cases hf : s.frameState with
    | commandField | argumentField | crc7 => simp [State.inField, hf] at hfield
    | startBit =>
      cases hbit : c.bit with
      | true =>
        rw [State.acted, State.fsmAction, State.startBitAction_of_high hbit]
        exact .abort hf hbit rfl hf rfl rfl
      | false =>
        rw [State.acted, State.fsmAction, State.startBitAction_of_low hbit]
        exact .start hf rfl nofun rfl rfl (List.append_assoc _ _ _)
    | direction =>
      rw [State.acted, State.fsmAction, State.directionAction_eq]
      exact .field .direction _ _ _ ⟨nofun, nofun⟩ (by rw [hf]; exact nofun) rfl nofun rfl rfl rfl
    | stop =>
      rw [State.acted, State.fsmAction, State.stopAction_eq]
      exact .stop hf rfl rfl rfl (by simp [State.afterFsm])

/-! The counters (R28 (d), R149). -/

theorem State.shiftIn_countersOk {s : State} {b : Bool} (h : s.countersOk = true) (hmore : s.countdown ≠ 1)
    (hfield : s.inField = true) : (s.shiftIn b).countersOk = true := by
  have hne : s.countdown.toNat ≠ 1 := fun h1 => hmore (BitVec.eq_of_toNat_eq h1)
  have hshift : (s.countdown - 1).toNat + 1 = s.countdown.toNat ∨ s.countdown.toNat = 0 := by
    by_cases h0 : s.countdown = 0
    · exact .inr (by rw [h0]; rfl)
    · exact .inl (toNat_sub_one h0)
  unfold State.countersOk at h ⊢
  rw [State.shiftIn_frameState]
  cases hf : s.frameState with
  | startBit | direction | stop => simp [State.inField, hf] at hfield
  | commandField =>
    rw [hf] at h
    simp only [Bool.and_eq_true, decide_eq_true_eq] at h ⊢
    change 1 ≤ (s.countdown - 1).toNat ∧ (s.countdown - 1).toNat ≤ _
    omega
  | crc7 =>
    rw [hf] at h
    simp only [Bool.and_eq_true, decide_eq_true_eq] at h ⊢
    change 1 ≤ (s.countdown - 1).toNat ∧ (s.countdown - 1).toNat ≤ _
    omega
  | argumentField =>
    rw [hf] at h
    have hnbits : (s.shiftIn b).nbits = s.nbits + 1 := if_pos hf
    have hlong : (s.shiftIn b).respLong = s.respLong := rfl
    simp only [Bool.and_eq_true, decide_eq_true_eq, hnbits, hlong] at h ⊢
    change 1 ≤ (s.countdown - 1).toNat ∧ (s.nbits + 1).toNat + (s.countdown - 1).toNat = _
    obtain ⟨hpos, hsum⟩ := h
    have hbound : (if s.respLong then Config.LONG_ARG_CYCLES else Config.ARG_BITS) ≤ 127 := by split <;> decide
    have hone : (1 : BitVec 8).toNat = 1 := rfl
    rw [BitVec.toNat_add, hone, Nat.mod_eq_of_lt (by omega)]
    omega

theorem State.completeField_countersOk {cls : Option FrameClass} {e : Nat} {s : State} (hfield : s.inField = true)
    (hdone : s.countdown = 0) : (s.completeField cls e).countersOk = true := by
  cases hf : s.frameState with
  | startBit | direction | stop => simp [State.inField, hf] at hfield
  | commandField =>
    simp only [State.completeField, hf, State.completeCommand_eq, State.countersOk]
    cases (cls.getD (s.classify (s.acc.setWidth 6))).isLong <;> decide
  | argumentField =>
    simp only [State.completeField, hf]
    cases s.respLong with
    | true => simp [State.countersOk, hdone]
    | false => simp [State.countersOk, Config.CRC7_BITS]
  | crc7 => simp [State.completeField, hf, State.countersOk, hdone]

theorem State.acted_countersOk {s : State} (cls : Option FrameClass) (c : Cycle) (h : s.countersOk = true) :
    (s.acted s.frameState cls c).countersOk = true := by
  by_cases hfield : s.inField = true
  · rw [State.acted, State.fsmAction_of_field hfield]
    split
    · next hlast =>
      exact State.completeField_countersOk (s := s.shiftIn c.bit) hfield (sub_eq_zero.2 hlast)
    · next hmore => exact State.shiftIn_countersOk (b := c.bit) h hmore hfield
  · have hzero : s.countdown = 0 := by
      unfold State.countersOk at h
      cases hf : s.frameState with
      | commandField | argumentField | crc7 => simp [State.inField, hf] at hfield
      | startBit | direction | stop => simpa [hf] using h
    cases hf : s.frameState with
    | commandField | argumentField | crc7 => simp [State.inField, hf] at hfield
    | startBit =>
      cases hbit : c.bit with
      | true =>
        simp [State.acted, State.fsmAction, State.startBitAction_of_high hbit, State.afterFsm, State.countersOk, hf, hzero]
      | false =>
        simp [State.acted, State.fsmAction, State.startBitAction_of_low hbit, State.afterFsm, State.countersOk, hzero]
    | direction =>
      simp [State.acted, State.fsmAction, State.directionAction_eq, State.afterFsm, State.countersOk, Config.CMD_FIELD_BITS]
    | stop => simp [State.acted, State.fsmAction, State.stopAction_eq, State.afterFsm, State.countersOk, hzero]

/-! From the midpoint of a cycle on. -/

/-- The cursors stand on the midpoint of a cycle that ends at `e`. -/
structure State.AtMidpoint (s : State) (e : Nat) : Prop where
  sound : s.Sound
  aligned : s.dataAligned = true
  cmd : s.cmd.pos = s.clk.pos
  level : s.clk.level = s.midLevel
  next : ∃ es, s.clk.ahead = e :: es

theorem State.Sound.atMidpoint {s : State} {m e : Nat} (hs : s.Sound) (hnext : s.clk.line.nextAfter m e = true)
    (hlevel : s.clk.line.levelAt m = s.midLevel) : ((s.movedTo m).marker m .sampleEdge .clk).AtMidpoint e := by
  have hl := (Cursor.wf_iff.1 hs.clk_wf).1
  have hbounds := Line.nextAfter_bounds hl hnext
  have hmoved := hs.movedTo (q := m) (by omega)
  exact ⟨⟨hmoved.presented, hmoved.wf, hmoved.behind, hmoved.counters, hmoved.units⟩, State.movedTo_aligned m s, rfl,
    hlevel, Line.nextAfter_iff.1 hnext⟩

theorem State.AtMidpoint.acted {s : State} {e : Nat} (cls : Option FrameClass) (c : Cycle) (h : s.AtMidpoint e)
    (hvalid : s.cmdStartValid = true) (hend : c.cycleEnd = e) (hfield : s.frameState ≠ .startBit → s.fieldStart ≤ e) :
    (s.acted s.frameState cls c).ControlInv := by
  have hcounters := State.acted_countersOk cls c h.sound.counters
  have hanswer := s.acted_answer cls c
  have honly := s.acted_fsmOnly s.frameState cls c
  generalize s.acted s.frameState cls c = u at hcounters hanswer honly
  obtain ⟨es, hnext⟩ := h.next
  have hsound : u.Sound := by
    rw [State.FsmOnly] at honly
    exact ⟨by rw [honly]; exact h.sound.presented, by rw [honly]; exact h.sound.wf,
      by rw [honly]; exact h.sound.behind, hcounters, by rw [honly]; exact h.sound.units⟩
  have haligned : u.dataAligned = true := by rw [honly]; exact h.aligned
  have hexchange : u.fieldStart ≤ e → u.InExchange := fun hle =>
    ⟨hsound, haligned, by rw [honly]; exact hvalid, by rw [honly]; exact h.cmd, by rw [honly]; exact h.level,
      e, es, by rw [honly]; exact hnext, hle⟩
  cases hanswer with
  | abort _ _ hphase hframe | stop _ hphase hframe =>
    exact (State.controlInv_iff_of_findCmdStart hphase).2 ⟨hsound, haligned, hframe⟩
  | start _ hphase hframe hstart | field _ _ _ _ _ _ hphase hframe hstart =>
    exact (State.controlInv_iff_of_exchange hphase hframe).2 (hexchange (by omega))
  | bit hold hphase hframe hstart =>
    have hle := hfield hold
    exact (State.controlInv_iff_of_exchange hphase hframe).2 (hexchange (by omega))

/-! The AnalyzeCommand iteration. -/

theorem State.fsmCycle_of_ne_startBit {f : FrameState} {s : State} (h : f ≠ .startBit) : s.fsmCycle f = s.cycle := by
  cases f with
  | startBit => exact absurd rfl h
  | direction | commandField | argumentField | crc7 | stop => rfl

/-- The cycle of the present sub-state of a state of the invariant. -/
theorem State.fsmCycle_answer {s : State} (hphase : s.phase = .analyzeCommand) (h : s.ControlInv) :
    s.CycleAnswer s.frameState (s.fsmCycle s.frameState) := by
  by_cases hframe : s.frameState = .startBit
  · obtain ⟨hidle, hvalid⟩ := (State.controlInv_iff_of_startBit hphase hframe).1 h
    rw [hframe]
    exact State.startCycle_answer hidle.sound (State.cmdAtStart_iff.1 (hidle.located hvalid)).1
  · have hexchange := (State.controlInv_iff_of_exchange hphase hframe).1 h
    rw [State.fsmCycle_of_ne_startBit hframe]
    exact State.cycle_answer _ hexchange.sound hexchange.cmd.le

theorem State.ControlInv.valid {s : State} (h : s.ControlInv) (hphase : s.phase = .analyzeCommand) :
    s.cmdStartValid = true := by
  by_cases hframe : s.frameState = .startBit
  · exact ((State.controlInv_iff_of_startBit hphase hframe).1 h).2
  · exact ((State.controlInv_iff_of_exchange hphase hframe).1 h).valid

theorem State.analyze_controlInv {s : State} (hphase : s.phase = .analyzeCommand) (h : s.ControlInv) :
    (s.analyze s.frameState none).ControlInv := by
  have hanswer := State.fsmCycle_answer hphase h
  cases hcycle : s.fsmCycle s.frameState with
  | signal x t =>
    rw [hcycle] at hanswer
    cases hanswer with
    | signal _ ht => rw [State.analyze_of_signal hcycle]; exact ht.sound.terminate _
  | ok c t =>
    rw [hcycle] at hanswer
    rw [State.analyze_of_fsmCycle hcycle]
    cases hanswer with
    | ok m e hclk hcmd hnext hlevel hlater =>
      refine State.AtMidpoint.acted (s := (s.movedTo m).marker m .sampleEdge .clk) _ _ (h.sound.atMidpoint hnext hlevel)
        (h.valid hphase) rfl fun hframe => ?_
      have hexchange := (State.controlInv_iff_of_exchange hphase hframe).1 h
      obtain ⟨q, qs, hq, hle⟩ := hexchange.next
      have hbounds := Line.nextAfter_bounds (Cursor.wf_iff.1 h.sound.clk_wf).1 hnext
      exact hle.trans (((hlater hframe).2 hexchange.level q qs hq).le.trans hbounds.1.le)

end Sys2Proof.Machine
end

section
/-! PROOFS. The rows outside an exchange (LOCATE, ARBITRATE, EXTRACT_BYTE) keep the invariant of the control state: what each of
their operations can answer from a state of the invariant, and the step as a whole. -/

namespace Sys2Proof.Machine

/-! LOCATE (R74, R76). -/

theorem Cursor.toLast_wf {n : Nat} {c : Cursor} (hc : c.wf n = true) : c.toLast.wf n = true := by
  unfold Cursor.toLast
  cases h : c.ahead.getLast? with
  | none => exact hc
  | some p =>
    obtain ⟨hl, -, -⟩ := Cursor.wf_iff.1 hc
    have hmem := (Cursor.mem_ahead.1 (List.mem_of_getLast? h)).1
    exact Cursor.placed_wf hl ((Line.wf_iff.1 hl).2 p hmem).2

theorem State.Sound.located {s : State} {f : Nat} (hs : s.Sound) (hf : f ∈ s.cmd.line.edges) :
    ({ s with cmd := .placed s.cmd.line f } : State).Sound := by
  have hl := (Cursor.wf_iff.1 hs.cmd_wf).1
  exact hs.withCmd (Cursor.placed_wf hl ((Line.wf_iff.1 hl).2 f hf).2)

theorem State.iterateLocate_controlInv {s : State} (hphase : s.phase = .findCmdStart) (h : s.ControlInv) :
    s.iterateLocate.ControlInv := by
  obtain ⟨hs, haligned, hframe⟩ := (State.controlInv_iff_of_findCmdStart hphase).1 h
  have hanswer := State.locate_answer hs.cmd_wf
  rw [State.iterateLocate]
  generalize s.locate = r at hanswer
  cases hanswer with
  | start f e _ hpulse =>
    obtain ⟨hmem, hlow, -⟩ := Line.pulse_iff.1 hpulse
    have hmoved := hs.located hmem
    exact (State.controlInv_iff_of_findDataStart rfl).2
      ⟨⟨hmoved.presented, hmoved.wf, hmoved.behind, hmoved.counters, hmoved.units⟩, haligned, hframe,
        fun _ => State.cmdAtStart_iff.2 ⟨rfl, hlow, hmem⟩⟩
  | none =>
    have hmoved := hs.withCmd (Cursor.toLast_wf hs.cmd_wf)
    exact (State.controlInv_iff_of_findDataStart rfl).2
      ⟨⟨hmoved.presented, hmoved.wf, hmoved.behind, hmoved.counters, hmoved.units⟩, haligned, hframe, nofun⟩
  | endOfStream f _ hmem => exact (hs.located hmem).terminate _

/-! The race and the alignment (R80, R82). -/

/-- After the alignment of a data start at `p`, which ends at the clock edge `c`. -/
def State.alignedTo (p c : Nat) (s : State) : State :=
  { s.dataAt c with dataStartSample := p, dataBlockStartSample := c, byteStart := c, unitCount := 0 }

/-- After an alignment that lacked clock edges. -/
def State.lostAt (p : Nat) (s : State) : State :=
  { s.dataAt p with dataStartSample := p, clk := .placed s.clk.line (max p s.clk.line.lastEdge) }

theorem State.Idle.dataAt {s : State} {q : Nat} (h : s.Idle) (hq : q < s.nSamples) : (s.dataAt q).Idle :=
  ⟨h.sound.dataAt hq, State.dataAt_dataAligned q s, h.frame, h.located⟩

theorem State.Idle.alignedTo {s : State} {p c : Nat} (h : s.Idle) (hc : c < s.nSamples) (hlines : s.dat ≠ .absent)
    (hlevel : s.clk.line.levelAt c = s.sampleLevel) : (s.alignedTo p c).Reading := by
  have hmoved := h.sound.dataAt hc
  exact ⟨⟨⟨hmoved.presented, hmoved.wf, hmoved.behind, hmoved.counters, Nat.zero_le _⟩, State.dataAt_dataAligned c s,
    h.frame, h.located⟩, DataSet.map_ne_absent hlines, hlevel, le_rfl, (by decide : (0 : Nat) < 514)⟩

theorem State.Idle.lostAt {s : State} {p : Nat} (h : s.Idle) (hp : p < s.nSamples) : (s.lostAt p).Sound := by
  have hl := (Cursor.wf_iff.1 h.sound.clk_wf).1
  have hlast : max p s.clk.line.lastEdge < s.nSamples := by
    rw [Line.max_lastEdge hl]
    cases hedge : (s.clk.line.edges.filter (p < ·)).getLast? with
    | none => exact hp
    | some q => exact ((Line.wf_iff.1 hl).2 q (List.mem_filter.1 (List.mem_of_getLast? hedge)).1).2
  have hmoved := (h.sound.dataAt hp).withClk (c := .placed s.clk.line (max p s.clk.line.lastEdge))
    (Cursor.placed_wf hl hlast) (le_max_left _ _)
  exact ⟨hmoved.presented, hmoved.wf, hmoved.behind, hmoved.counters, hmoved.units⟩

/-- The race finds a data start that can be aligned, or one that cannot, or none. -/
theorem State.Idle.race_cases {s : State} (h : s.Idle) :
    (∃ p c u, s.arbitrate = .ok .dataPresent u ∧ u.alignData = .ok () (s.alignedTo p c) ∧ s.clk.pos < c ∧
        c ∈ s.clk.line.edges ∧ (s.alignedTo p c).Reading) ∨
      (∃ p u, s.arbitrate = .ok .dataPresent u ∧ u.alignData = .signal .endOfStream (s.lostAt p) ∧ (s.lostAt p).Sound) ∨
      ∃ q, s.arbitrate = .ok .noData (s.dataAt q) ∧ s.clk.pos ≤ q ∧ (s.dataAt q).Idle := by
  have hanswer := State.arbitrate_answer h.sound.wf h.aligned
  cases harb : s.arbitrate with
  | signal x t =>
    rw [harb] at hanswer
    cases hanswer
  | ok a t =>
    rw [harb] at hanswer
    cases hanswer with
    | dataPresent p q hfall hbound =>
      have hp := State.firstDataFall_lt h.sound.wf hfall
      rcases s.alignedAt_or_unalignable p with ⟨c, hc⟩ | hno
      · obtain ⟨u, hu, halign, hpc, hlt, hmem, hlevel⟩ :=
          State.arbitrate_alignData_of_alignedAt h.sound.wf h.aligned hfall hbound hc
        rw [harb] at hu
        refine .inl ⟨p, c, u, hu, halign, (State.firstDataFall_iff.1 hfall).1.trans hpc, hmem, ?_⟩
        exact h.alignedTo hlt (State.dat_ne_absent_of_firstDataFall hfall) hlevel
      · obtain ⟨u, hu, halign⟩ := State.arbitrate_alignData_of_unalignable h.sound.wf h.aligned hfall hbound hno
        rw [harb] at hu
        exact .inr (.inl ⟨p, u, hu, halign, h.lostAt hp⟩)
    | noData => exact .inr (.inr ⟨_, rfl, s.lastPassed_bounds.1, h.dataAt (State.lastPassed_lt h.sound.wf)⟩)

theorem State.Idle.analyze {s : State} (h : s.Idle) (hvalid : s.cmdStartValid = true) :
    ({ s with phase := .analyzeCommand } : State).ControlInv := by
  obtain ⟨hs, haligned, hframe, hlocated⟩ := h
  exact (State.controlInv_iff_of_startBit (s := { s with phase := .analyzeCommand }) rfl hframe).2
    ⟨⟨⟨hs.presented, hs.wf, hs.behind, hs.counters, hs.units⟩, haligned, hframe, hlocated⟩, hvalid⟩

theorem State.Reading.read {s : State} (h : s.Reading) : ({ s with phase := .readData } : State).ControlInv := by
  obtain ⟨⟨hs, haligned, hframe, hlocated⟩, hlines, hlevel, hbyte, hunits⟩ := h
  exact (State.controlInv_iff_of_readData rfl).2
    ⟨⟨⟨hs.presented, hs.wf, hs.behind, hs.counters, hs.units⟩, haligned, hframe, hlocated⟩, hlines, hlevel, hbyte, hunits⟩

theorem State.Idle.afterData {s : State} (h : s.Idle) : s.afterData.ControlInv := by
  rw [State.afterData]
  split
  · next hvalid => exact h.analyze hvalid
  · exact h.sound.terminate _

/-! The per-bit step and the interruption test (R88, R89). -/

/-- After a per-bit step that ends at the clock edge `c`. -/
def State.bitRead (c : Nat) (s : State) : State :=
  s.bitMoved none (.placed s.clk.line c) (s.dat.map fun d => .placed d.line c)

/-- What a per-bit step can answer. -/
inductive State.BitAnswer (s : State) : Res Nat → Prop where
  | ok (b c : Nat) (hb : s.clk.line.nextAfter s.clk.pos b = true) (hc : s.clk.line.nextAfter b c = true)
      (hread : (s.bitRead c).Reading) : s.BitAnswer (.ok b (s.bitRead c))
  | signal (q : Cursor) (hsound : (s.bitMoved none q s.dat).Sound) :
      s.BitAnswer (.signal .endOfStream (s.bitMoved none q s.dat))

theorem State.Sound.bitMoved {s : State} {clk : Cursor} {dat : DataSet Cursor}
    (h : ({ s with clk := clk, dat := dat } : State).Sound) : (s.bitMoved none clk dat).Sound :=
  ⟨h.presented, h.wf, h.behind, h.counters, h.units⟩

theorem State.bitMoved_of_bitMove {s : State} {q : Cursor} {x : Signal}
    (h : bitMove s.nSamples s.clk s.dat = (q, s.dat, .error x)) :
    s.bitStep none = .signal x (s.bitMoved none q s.dat) := by
  rw [State.bitStep_eq, h]
  rfl

theorem State.Reading.bitStep_answer {s : State} (h : s.Reading) : s.BitAnswer (s.bitStep none) := by
  have hs := h.idle.sound
  obtain ⟨-, hclk, -, hdat⟩ := State.cursorsWf_iff.1 hs.wf
  obtain ⟨hl, -, -⟩ := Cursor.wf_iff.1 hclk
  cases hahead : s.clk.ahead with
  | nil =>
    have hmove : bitMove s.nSamples s.clk s.dat = (s.clk, s.dat, .error .endOfStream) := by
      rw [bitMove, Cursor.nextEdge_error.2 ⟨hahead, rfl⟩]
    rw [State.bitMoved_of_bitMove hmove]
    exact .signal _ hs.bitMoved
  | cons b bs =>
    obtain ⟨hnextb, hwfb⟩ := Cursor.nextEdge_of_ahead hclk hahead
    have hrest := Cursor.ahead_placed hl hahead
    have hposb := (Cursor.ahead_cons hahead).2
    cases bs with
    | nil =>
      have hmove : bitMove s.nSamples s.clk s.dat = (.placed s.clk.line b, s.dat, .error .endOfStream) := by
        rw [bitMove, hnextb]
        simp only [Cursor.nextEdge_error.2 ⟨hrest, rfl⟩]
      rw [State.bitMoved_of_bitMove hmove]
      exact .signal _ (hs.withClk hwfb hposb.le).bitMoved
    | cons c cs =>
      obtain ⟨hnextc, hwfc⟩ := Cursor.nextEdge_of_ahead hwfb hrest
      have hposc : b < c := (Cursor.ahead_cons hrest).2
      have hlt : c < s.nSamples := (Cursor.wf_iff.1 hwfc).2.1
      have heach : s.dat.each (Cursor.toAbs s.nSamples c) = (s.dat.map (fun d => .placed d.line c), none) :=
        DataSet.each_of_forall_ok fun d hd =>
          Cursor.toAbs_of_wf (hdat d hd) ((hs.behind d hd).trans (hposb.trans hposc).le) hlt
      have hpos : (Cursor.placed (Cursor.placed s.clk.line b).line c).pos = c := rfl
      have hmove : bitMove s.nSamples s.clk s.dat =
          (.placed s.clk.line c, s.dat.map (fun d => .placed d.line c), .ok b) := by
        rw [bitMove, hnextb]
        simp only
        rw [hnextc]
        simp only
        rw [hpos, heach]
        rfl
      have hstep : s.bitStep none = .ok b (s.bitRead c) := by
        rw [State.bitStep_eq, hmove]
        rfl
      have hlevel : s.clk.line.levelAt c = s.clk.level := by
        have hc : s.clk.line.levelAt c = !s.clk.line.levelAt b := Cursor.levelAt_of_ahead hwfb hrest
        rw [hc, Cursor.levelAt_of_ahead hclk hahead, Bool.not_not]
      rw [hstep]
      refine .ok b c (Line.nextAfter_iff.2 ⟨_, hahead⟩) (Line.nextAfter_iff.2 ⟨_, hrest⟩) ⟨⟨?_, ?_, ?_, ?_⟩, ?_, ?_, ?_, ?_⟩
      · exact (hs.dataAt hlt).bitMoved
      · exact State.dataAt_dataAligned c s
      · exact h.idle.frame
      · exact h.idle.located
      · exact DataSet.map_ne_absent h.lines
      · exact hlevel.trans h.level
      · exact h.byteStart.trans (hposb.trans hposc).le
      · exact h.units

/-- The interruption test outside an exchange: the command line is low at a known command start, so nothing is located. -/
theorem State.Idle.interruptionTest_cases {s : State} (h : s.Idle) :
    (s.interruptionTest = .ok false s ∧
        (s.cmdStartValid = true → ∃ q qs, s.clk.ahead = q :: qs ∧ q < s.cmdStartSample)) ∨
      (s.interruptionTest = .ok true s ∧ s.cmdStartValid = true) ∨ s.interruptionTest = .signal .endOfStream s := by
  cases hvalid : s.cmdStartValid with
  | false =>
    exact .inl ⟨State.interruptionTest_of_notDue (by simp [State.notDue, hvalid]), nofun⟩
  | true =>
    have hlow := (State.cmdAtStart_iff.1 (h.located hvalid)).2.1
    cases hahead : s.clk.ahead with
    | nil => exact .inr (.inr (State.interruptionTest_of_noEdge hvalid hahead))
    | cons q qs =>
      have hpeek : s.clk.peek = .ok q := Cursor.peek_ok.2 ⟨qs, hahead⟩
      by_cases hlt : q < s.cmdStartSample
      · exact .inl ⟨State.interruptionTest_of_notDue (by simp [State.notDue, hpeek, hlt]), fun _ => ⟨q, qs, rfl, hlt⟩⟩
      · exact .inr (.inl ⟨State.interruptionTest_of_due (by simp [State.due, hvalid, hlow, hpeek]; omega), rfl⟩)

/-! EXTRACT_BYTE (R94). -/

/-- What EXTRACT_BYTE leaves. -/
inductive ExtractAnswer : Res Extracted → Prop where
  | byteDone (t : State) (h : t.Reading) : ExtractAnswer (.ok .byteDone t)
  | blockDoneMore (t : State) (h : t.Reading) : ExtractAnswer (.ok .blockDoneMore t)
  | blockDoneNoMore (t : State) (h : t.Idle) : ExtractAnswer (.ok .blockDoneNoMore t)
  | interrupted (t : State) (h : t.Idle) : ExtractAnswer (.ok .interrupted t)
  | signal (t : State) (h : t.Sound) : ExtractAnswer (.signal .endOfStream t)

theorem State.Idle.closePacket {s : State} (h : s.Idle) : s.closePacket.Idle := by
  obtain ⟨hs, haligned, hframe, hlocated⟩ := h
  rw [State.closePacket_eq]
  exact ⟨⟨hs.presented, hs.wf, hs.behind, hs.counters, hs.units⟩, haligned, hframe, hlocated⟩

theorem State.Idle.progress {s : State} (h : s.Idle) : s.progress.Idle := by
  obtain ⟨hs, haligned, hframe, hlocated⟩ := h
  exact ⟨⟨hs.presented, hs.wf, hs.behind, hs.counters, hs.units⟩, haligned, hframe, hlocated⟩

theorem toNat_succ_unit {v : BitVec 10} (h : v.toNat < 514) : (v + 1).toNat = v.toNat + 1 := by
  have hone : (1 : BitVec 10).toNat = 1 := rfl
  rw [BitVec.toNat_add, hone, Nat.mod_eq_of_lt (by omega)]

theorem State.Reading.completeByte {s : State} {boundary : Nat} (h : s.Reading) : (s.completeByte boundary).Idle := by
  obtain ⟨⟨hs, haligned, hframe, hlocated⟩, -, -, -, hunits⟩ := h
  rw [State.completeByte_eq]
  refine ⟨⟨hs.presented, hs.wf, hs.behind, hs.counters, ?_⟩, haligned, hframe, hlocated⟩
  change (s.unitCount + 1).toNat ≤ 514
  rw [toNat_succ_unit hunits]
  omega

theorem State.Reading.completeByte_more {s : State} {boundary : Nat} (h : s.Reading) (hpos : boundary ≤ s.clk.pos)
    (hmore : s.unitCount ≠ 513) : (s.completeByte boundary).Reading := by
  have hidle := h.completeByte (boundary := boundary)
  obtain ⟨-, hlines, hlevel, -, hunits⟩ := h
  have hne : s.unitCount.toNat ≠ 513 := fun heq => hmore (BitVec.eq_of_toNat_eq heq)
  rw [State.completeByte_eq] at hidle ⊢
  refine ⟨hidle, hlines, hlevel, hpos, ?_⟩
  change (s.unitCount + 1).toNat < 514
  rw [toNat_succ_unit hunits]
  omega

/-- The block boundary: the race from the closed packet (R91). -/
theorem State.Idle.endBlock {s : State} (h : s.Idle) : ExtractAnswer s.endBlock := by
  rw [State.endBlock]
  rcases h.closePacket.progress.race_cases with
    ⟨p, c, u, harb, halign, -, -, hread⟩ | ⟨p, u, harb, halign, hlost⟩ | ⟨q, harb, -, hidle⟩
  · rw [harb, Res.andThen_of_ok]
    simp only
    rw [halign, Res.andThen_of_ok]
    exact .blockDoneMore _ hread
  · rw [harb, Res.andThen_of_ok]
    simp only
    rw [halign, Res.andThen_of_signal]
    exact .signal _ hlost
  · rw [harb, Res.andThen_of_ok]
    exact .blockDoneNoMore _ hidle

theorem State.Reading.extractPasses {s : State} (fuel : Nat) (h : s.Reading) :
    ExtractAnswer (State.extractPasses none fuel s) := by
  induction fuel generalizing s with
  | zero => exact .byteDone s h
  | succ fuel ih =>
    rw [State.extractPasses_succ]
    have hanswer := h.bitStep_answer
    generalize s.bitStep none = r at hanswer
    cases hanswer with
    | signal q hsound => exact .signal _ hsound
    | ok b c hb hc hread =>
      rw [Res.andThen_of_ok]
      have hbc : b ≤ (s.bitRead c).clk.pos :=
        (Line.nextAfter_bounds (Cursor.wf_iff.1 h.idle.sound.clk_wf).1 hc).1.le
      generalize s.bitRead c = t at hread hbc
      rcases hread.idle.interruptionTest_cases with ⟨htest, -⟩ | ⟨htest, -⟩ | hsignal
      · by_cases hdnb : t.dnb = 8
        · rw [State.finishPass_of_byte htest hdnb, if_neg Bool.false_ne_true]
          split
          · exact hread.completeByte.endBlock
          · next hmore => exact .byteDone _ (hread.completeByte_more hbc hmore)
        · rw [State.finishPass_of_bits htest hdnb, if_neg Bool.false_ne_true]
          exact ih hread
      · by_cases hdnb : t.dnb = 8
        · rw [State.finishPass_of_byte htest hdnb, if_pos rfl]
          exact .interrupted _ hread.completeByte.closePacket
        · rw [State.finishPass_of_bits htest hdnb, if_pos rfl]
          exact .interrupted _ hread.idle.closePacket
      · rw [State.finishPass, hsignal, Res.andThen_of_signal]
        exact .signal _ hread.idle.sound

/-- EXTRACT_BYTE starts with an empty accumulator (R94). -/
theorem State.Reading.cleared {s : State} (h : s.Reading) : ({ s with dacc := 0, dnb := 0 } : State).Reading := by
  obtain ⟨⟨hs, haligned, hframe, hlocated⟩, hlines, hlevel, hbyte, hunits⟩ := h
  exact ⟨⟨⟨hs.presented, hs.wf, hs.behind, hs.counters, hs.units⟩, haligned, hframe, hlocated⟩, hlines, hlevel, hbyte, hunits⟩

theorem State.read_controlInv {s : State} (hphase : s.phase = .readData) (h : s.ControlInv) : (s.read none).ControlInv := by
  have hanswer := ((State.controlInv_iff_of_readData hphase).1 h).cleared.extractPasses 8
  rw [State.read_eq, State.extractByte]
  generalize State.extractPasses none 8 { s with dacc := 0, dnb := 0 } = r at hanswer
  cases hanswer with
  | byteDone t ht | blockDoneMore t ht => exact ht.read
  | blockDoneNoMore t ht | interrupted t ht => exact ht.afterData
  | signal t ht => exact ht.terminate _

/-! The ARBITRATE iteration, with the operation it falls through to (R119). -/

theorem State.iterateArbitrate_controlInv {s : State} (hphase : s.phase = .findDataStart) (h : s.ControlInv) :
    s.iterateArbitrate.ControlInv := by
  have hidle := (State.controlInv_iff_of_findDataStart hphase).1 h
  rw [State.iterateArbitrate]
  rcases hidle.race_cases with ⟨p, c, u, harb, halign, -, -, hread⟩ | ⟨p, u, harb, halign, hlost⟩ | ⟨q, harb, -, hmoved⟩
  · rw [harb, Res.orTerminate_of_ok]
    simp only
    rw [halign, Res.orTerminate_of_ok]
    exact State.read_controlInv rfl hread.read
  · rw [harb, Res.orTerminate_of_ok]
    simp only
    rw [halign, Res.orTerminate_of_signal]
    exact hlost.terminate _
  · rw [harb, Res.orTerminate_of_ok]
    simp only
    split
    · next hvalid =>
      exact State.analyze_controlInv (s := { s.dataAt q with phase := .analyzeCommand }) rfl (hmoved.analyze hvalid)
    · exact hmoved.sound.terminate _

/-! The step. -/

theorem State.ControlInv.taken {s : State} (h : s.ControlInv) : s.taken.ControlInv := by
  obtain ⟨-, hwf, hclock, hok, hcounters, hunits⟩ := h
  exact ⟨rfl, hwf, hclock, hok, hcounters, hunits⟩

/-- Settles O51: the row of each phase keeps the invariant, and so does a cancelled run. -/
theorem stepKeepsTheControlInvariant : Obligations.StepKeepsTheControlInvariant := by
  unfold Obligations.StepKeepsTheControlInvariant
  intro s t h hstep
  have htaken := h.taken
  rcases step_cases h.1 hstep with
    ⟨-, rfl⟩ | ⟨hphase, rfl⟩ | ⟨hphase, rfl⟩ | ⟨hphase, -, rfl⟩ | ⟨hphase, rfl⟩ | ⟨-, rfl⟩
  · exact htaken.sound.terminate _
  · exact State.iterateLocate_controlInv (s := s.taken) hphase htaken
  · exact State.iterateArbitrate_controlInv (s := s.taken) hphase htaken
  · exact State.read_controlInv (s := s.taken) hphase htaken
  · exact State.analyze_controlInv (s := s.taken) hphase htaken
  · exact h

end Sys2Proof.Machine
end

section
/-! PROOFS. The end of a run (spec/45_decode_driver.md section 3, R124): every step ends the run, moves the clock or the command
cursor forward, or goes on to a phase that comes earlier in a short order; the capture is finite. -/

namespace Sys2Proof.Machine

/-- How many steps a state may still take that move neither the clock nor the command cursor. -/
def State.rank (s : State) : Nat :=
  match s.phase with
  | .findCmdStart => 1
  | .findDataStart => if s.cmdStartValid then 2 else 0
  | .readData => 0
  | .analyzeCommand => if s.frameState = .startBit then 2 else 0
  | .terminated => 0

/-- From `s` to `t` the run has come nearer to its end. -/
def State.Nearer (s t : State) : Prop :=
  t.phase = .terminated ∨ s.clk.pos < t.clk.pos ∨ s.cmd.pos < t.cmd.pos ∨ t.rank < s.rank

theorem State.nearer_of_clk {s t : State} (h : s.clk.pos < t.clk.pos) : s.Nearer t := .inr (.inl h)

theorem State.iterateLocate_nearer {s : State} (hphase : s.phase = .findCmdStart) (h : s.ControlInv) :
    s.Nearer s.iterateLocate := by
  have hanswer := State.locate_answer h.sound.cmd_wf
  rw [State.iterateLocate]
  generalize s.locate = r at hanswer
  cases hanswer with
  | start f e hf => exact .inr (.inr (.inl hf))
  | none =>
    refine .inr (.inr (.inr ?_))
    rw [State.rank, State.rank, hphase]
    exact Nat.zero_lt_one
  | endOfStream f => exact .inl (State.terminate_phase _ _)

/-- An FSM cycle ends the run, moves the clock on, or takes the first cycle of an exchange. -/
theorem State.analyze_progress {s : State} (hphase : s.phase = .analyzeCommand) (h : s.ControlInv) :
    (s.analyze s.frameState none).phase = .terminated ∨
      (s.frameState ≠ .startBit ∧ s.clk.pos < (s.analyze s.frameState none).clk.pos) ∨
      (s.frameState = .startBit ∧ (s.analyze s.frameState none).rank < 2) := by
  have hanswer := State.fsmCycle_answer hphase h
  cases hcycle : s.fsmCycle s.frameState with
  | signal x t => exact .inl (by rw [State.analyze_of_signal hcycle]; exact State.terminate_phase _ _)
  | ok c t =>
    rw [hcycle] at hanswer
    cases hanswer with
    | ok m e hclk hcmd hnext hlevel hlater =>
      have hacted := State.acted_answer ((s.movedTo m).marker m .sampleEdge .clk) none
        { mid := m, cycleEnd := e, bit := s.cmd.line.levelAt m }
      have honly := State.acted_fsmOnly ((s.movedTo m).marker m .sampleEdge .clk) s.frameState none
        { mid := m, cycleEnd := e, bit := s.cmd.line.levelAt m }
      have hresult : s.analyze s.frameState none = ((s.movedTo m).marker m .sampleEdge .clk).acted s.frameState none
          { mid := m, cycleEnd := e, bit := s.cmd.line.levelAt m } := State.analyze_of_fsmCycle hcycle
      rw [hresult]
      right
      by_cases hframe : s.frameState = .startBit
      · refine .inr ⟨hframe, ?_⟩
        have hstart : ((s.movedTo m).marker m .sampleEdge .clk).frameState = s.frameState := rfl
        rw [hstart] at hacted
        generalize State.acted _ _ _ _ = u at hacted
        cases hacted with
        | abort _ _ hphase' | stop _ hphase' => rw [State.rank, hphase']; exact Nat.one_lt_two
        | start _ hphase' hframe' | field _ _ _ _ _ _ hphase' hframe' | bit _ hphase' hframe' =>
          rw [State.rank, hphase']
          simp only [if_neg hframe']
          exact Nat.zero_lt_two
      · refine .inl ⟨hframe, ?_⟩
        rw [honly]
        exact (hlater hframe).1

theorem State.analyze_nearer {s : State} (hphase : s.phase = .analyzeCommand) (h : s.ControlInv) :
    s.Nearer (s.analyze s.frameState none) := by
  rcases State.analyze_progress hphase h with hover | ⟨-, hclk⟩ | ⟨hframe, hrank⟩
  · exact .inl hover
  · exact State.nearer_of_clk hclk
  · have hs : s.rank = 2 := by rw [State.rank, hphase]; exact if_pos hframe
    exact .inr (.inr (.inr (hs ▸ hrank)))

theorem State.finishPass_forward (fuel boundary : Nat) (s : State) :
    s.Forward (State.finishPass none fuel boundary s).state := by
  refine State.forward_of_andThen s.interruptionTest_forward fun interrupted v => ?_
  have hbyte : v.Forward (if v.dnb = 8 then v.completeByte boundary else v) := by
    split
    · exact v.completeByte_forward boundary
    · exact .refl v
  dsimp only
  generalize (if v.dnb = 8 then v.completeByte boundary else v) = w at hbyte ⊢
  split_ifs
  · exact hbyte.trans w.closePacket_forward
  · exact hbyte.trans w.endBlock_forward
  · exact hbyte
  · exact hbyte.trans (State.extractPasses_forward _ _ w)

theorem State.read_nearer {s : State} (hphase : s.phase = .readData) (h : s.ControlInv) : s.Nearer (s.read none) := by
  have hreading := ((State.controlInv_iff_of_readData hphase).1 h).cleared
  have hl := (Cursor.wf_iff.1 h.sound.clk_wf).1
  have hanswer := hreading.bitStep_answer
  have hloop : s.extractByte none = (State.bitStep none { s with dacc := 0, dnb := 0 }).andThen (State.finishPass none 7) := rfl
  generalize State.bitStep none { s with dacc := 0, dnb := 0 } = r at hanswer hloop
  cases hanswer with
  | signal q hsound =>
    rw [Res.andThen_of_signal] at hloop
    rw [State.read_eq, hloop]
    exact .inl (State.terminate_phase _ _)
  | ok b c hb hc hread =>
    have hpos : s.clk.pos < (State.bitRead c { s with dacc := 0, dnb := 0 }).clk.pos :=
      (Line.nextAfter_bounds hl hb).1.trans (Line.nextAfter_bounds hl hc).1
    rw [Res.andThen_of_ok] at hloop
    have hforward := State.finishPass_forward 7 b (State.bitRead c { s with dacc := 0, dnb := 0 })
    refine State.nearer_of_clk (hpos.trans_le ?_)
    rw [State.read_eq, hloop]
    generalize State.finishPass none 7 b (State.bitRead c { s with dacc := 0, dnb := 0 }) = r at hforward
    cases r with
    | signal x u => exact (hforward.trans (u.terminate_forward _)).clk.2
    | ok a u =>
      cases a with
      | byteDone | blockDoneMore => exact hforward.clk.2
      | blockDoneNoMore | interrupted => exact (hforward.trans u.afterData_forward).clk.2

theorem State.iterateArbitrate_nearer {s : State} (hphase : s.phase = .findDataStart) (h : s.ControlInv) :
    s.Nearer s.iterateArbitrate := by
  have hidle := (State.controlInv_iff_of_findDataStart hphase).1 h
  rw [State.iterateArbitrate]
  rcases hidle.race_cases with ⟨p, c, u, harb, halign, hpos, -, -⟩ | ⟨p, u, harb, halign, -⟩ | ⟨q, harb, hpos, hmoved⟩
  · rw [harb, Res.orTerminate_of_ok]
    simp only
    rw [halign, Res.orTerminate_of_ok]
    exact State.nearer_of_clk (hpos.trans_le (State.read_forward none { s.alignedTo p c with phase := .readData }).clk.2)
  · rw [harb, Res.orTerminate_of_ok]
    simp only
    rw [halign, Res.orTerminate_of_signal]
    exact .inl (State.terminate_phase _ _)
  · rw [harb, Res.orTerminate_of_ok]
    simp only
    split
    · next hvalid =>
      rcases State.analyze_progress (s := { s.dataAt q with phase := .analyzeCommand }) rfl (hmoved.analyze hvalid) with
        hover | ⟨hframe, -⟩ | ⟨-, hrank⟩
      · exact .inl hover
      · exact absurd hidle.frame hframe
      · have hs : s.rank = 2 := by rw [State.rank, hphase]; exact if_pos hvalid
        exact .inr (.inr (.inr (hs ▸ hrank)))
    · exact .inl (State.terminate_phase _ _)

theorem step_nearer {s t : State} (h : s.ControlInv) (hrunning : s.phase ≠ .terminated) (hstep : step s = .next t) :
    s.Nearer t := by
  have htaken := h.taken
  rcases step_cases h.1 hstep with
    ⟨-, rfl⟩ | ⟨hphase, rfl⟩ | ⟨hphase, rfl⟩ | ⟨hphase, -, rfl⟩ | ⟨hphase, rfl⟩ | ⟨hphase, -⟩
  · exact .inl (State.terminate_phase _ _)
  · exact State.iterateLocate_nearer (s := s.taken) hphase htaken
  · exact State.iterateArbitrate_nearer (s := s.taken) hphase htaken
  · exact State.read_nearer (s := s.taken) hphase htaken
  · exact State.analyze_nearer (s := s.taken) hphase htaken
  · exact absurd hphase hrunning

/-- A bound on the steps to the end of the run. -/
def State.stepsLeft (s : State) : Nat := 3 * ((s.nSamples - s.clk.pos) + (s.nSamples - s.cmd.pos)) + s.rank

theorem State.rank_le (s : State) : s.rank ≤ 2 := by
  unfold State.rank
  cases s.phase with
  | findDataStart | analyzeCommand => simp only; split <;> omega
  | findCmdStart | readData | terminated => simp only; omega

theorem step_stepsLeft {s t : State} (h : s.ControlInv) (hrunning : s.phase ≠ .terminated) (hstep : step s = .next t) :
    t.phase = .terminated ∨ t.stepsLeft < s.stepsLeft := by
  have hforward := step_forward hstep
  have ht := (stepKeepsTheControlInvariant s t h hstep).sound
  have hclkt := ht.clk_lt
  have hcmdt := (Cursor.wf_iff.1 ht.cmd_wf).2.1
  have hclk := hforward.clk.2
  have hcmd := hforward.cmd.2
  have hranks := s.rank_le
  have hrankt := t.rank_le
  rw [hforward.nSamples] at hclkt hcmdt
  rcases step_nearer h hrunning hstep with hover | hnearer | hnearer | hnearer
  · exact .inl hover
  all_goals
    right
    rw [State.stepsLeft, State.stepsLeft, hforward.nSamples]
    omega

/-- Settles O57, by induction on the bound of the steps left. -/
theorem everyRunEnds : Obligations.EveryRunEnds := by
  unfold Obligations.EveryRunEnds
  intro s h
  induction hn : s.stepsLeft using Nat.strong_induction_on generalizing s with
  | h n ih =>
    by_cases hphase : s.phase = .terminated
    · exact ⟨0, s, rfl, hphase⟩
    · obtain ⟨t, hstep⟩ := invariantStatesAlwaysStep s h
      rcases step_stepsLeft h hphase hstep with hover | hless
      · exact ⟨1, t, by rw [run_succ hstep, run_zero], hover⟩
      · obtain ⟨k, u, hrun, hover⟩ := ih t.stepsLeft (hn ▸ hless) t (stepKeepsTheControlInvariant s t h hstep) rfl
        exact ⟨k + 1, u, by rw [run_succ hstep, hrun], hover⟩

end Sys2Proof.Machine
end

section
/-! PROOFS. The output of a run as a list of events (spec/20_memory.md sections 5 and 8): what appending an event keeps of its
order and of its packets, and how the invariant of the output reads in those terms. -/

namespace Sys2Proof.Machine

/-! Lists of events. -/

theorem framesOf_append (es fs : List Event) : framesOf (es ++ fs) = framesOf es ++ framesOf fs := List.filterMap_append ..

theorem packetScan_append (o : Option Nat) (es fs : List Event) :
    packetScan o (es ++ fs) = (packetScan o es).bind (packetScan · fs) := by
  induction es generalizing o with
  | nil => cases o <;> rfl
  | cons e es ih =>
    cases e with
    | addFrame f =>
      cases o with
      | none => exact ih _
      | some p =>
        simp only [List.cons_append, packetScan]
        split
        · exact ih _
        · rfl
    | commitPacket | cancelPacket => cases o <;> exact ih _
    | marker | progress | terminated => cases o <;> exact ih _

/-- An event that neither emits a frame nor touches a packet nor ends the run. -/
inductive Event.Silent : Event → Prop where
  | marker (p : Nat) (k : MarkerKind) (c : Channel) : Silent (.marker p k c)
  | progress (p : Nat) : Silent (.progress p)

theorem framesOf_silent {es : List Event} (h : ∀ e ∈ es, e.Silent) : framesOf es = [] := by
  refine List.filterMap_eq_nil_iff.2 fun e he => ?_
  cases h e he <;> rfl

theorem packetScan_silent {o : Option Nat} {es : List Event} (h : ∀ e ∈ es, e.Silent) : packetScan o es = some o := by
  induction es with
  | nil => cases o <;> rfl
  | cons e es ih =>
    have hrest := ih fun x hx => h x (List.mem_cons_of_mem e hx)
    cases h e List.mem_cons_self <;> cases o <;> exact hrest

/-! A well-formed output. -/

/-- The events `out`, emitted on the lines of `s`, are well-formed so far, and the last frame of the open packet, if one is
open, ends at `o`. -/
structure State.Emits (s : State) (out : List Event) (o : Option Nat) : Prop where
  ranges : ∀ f ∈ framesOf out, f.first ≤ f.last
  order : s.inTimeOrder (framesOf out)
  placed : ∀ f ∈ framesOf out, s.placedOnLines f = true
  packet : packetScan none out = some o
  running : ∀ e ∈ out, e.isTerminated = false

/-- What begins at sample `p` is after every frame of `out`. -/
def State.Past (s : State) (out : List Event) (command : Bool) (p : Nat) : Prop :=
  ∀ f ∈ framesOf out, s.afterFrame command f p = true

theorem State.afterAll_iff {s : State} {command : Bool} {p : Nat} : s.afterAll command p = true ↔ s.Past s.out command p :=
  List.all_eq_true

theorem State.afterFrame_of_lt {s : State} {command : Bool} {f : Frame} {p : Nat} (h : f.last < p) :
    s.afterFrame command f p = true := by
  simp [State.afterFrame, h]

section
variable {s : State} {out : List Event} {command : Bool} {p q : Nat} {o : Option Nat}

theorem State.Past.mono (h : s.Past out command p) (hpq : p ≤ q) : s.Past out command q :=
  fun f hf => State.afterFrame_mono hpq (h f hf)

theorem State.Past.of_ended (h : s.Past out false p) : s.Past out command p :=
  fun f hf => State.afterFrame_of_ended (h f hf)

theorem State.Past.silent {es : List Event} (h : s.Past out command p) (hes : ∀ e ∈ es, e.Silent) :
    s.Past (out ++ es) command p := by
  rwa [State.Past, framesOf_append, framesOf_silent hes, List.append_nil]

theorem State.Past.frame {f : Frame} (h : s.Past out command p) (hf : s.afterFrame command f p = true) :
    s.Past (out ++ [.addFrame f]) command p := by
  intro g hg
  rw [framesOf_append] at hg
  rcases List.mem_append.1 hg with hold | hnew
  · exact h g hold
  · rwa [List.mem_singleton.1 hnew]

theorem State.Past.shown {f : Frame} {suppressed : Bool} (h : s.Past out command p)
    (hf : s.afterFrame command f p = true) : s.Past (out ++ Machine.shown suppressed f) command p := by
  cases suppressed with
  | true => rwa [Machine.shown, if_pos rfl, List.append_nil]
  | false => exact h.frame hf

theorem framesOf_committed (isOpen : Bool) : framesOf (committed isOpen) = [] := by cases isOpen <;> rfl

theorem State.Past.commit {isOpen : Bool} (h : s.Past out command p) : s.Past (out ++ committed isOpen) command p := by
  rwa [State.Past, framesOf_append, framesOf_committed, List.append_nil]

theorem State.Emits.silent {es : List Event} (h : s.Emits out o) (hes : ∀ e ∈ es, e.Silent) : s.Emits (out ++ es) o := by
  have hframes : framesOf (out ++ es) = framesOf out := by rw [framesOf_append, framesOf_silent hes, List.append_nil]
  refine ⟨hframes ▸ h.ranges, hframes ▸ h.order, hframes ▸ h.placed, ?_, fun e he => ?_⟩
  · rw [packetScan_append, h.packet]
    exact packetScan_silent hes
  · rcases List.mem_append.1 he with hold | hnew
    · exact h.running e hold
    · cases hes e hnew <;> rfl

/-- A frame after all the others, placed where the lines put it, that abuts the frame before it in its packet. -/
theorem State.Emits.frame {f : Frame} (h : s.Emits out o) (hrange : f.first ≤ f.last)
    (hpast : s.Past out (f.kind == .start) f.first) (hplaced : s.placedOnLines f = true)
    (habut : ∀ e, o = some e → f.first = e + 1) : s.Emits (out ++ [.addFrame f]) (some f.last) := by
  have hframes : framesOf (out ++ [.addFrame f]) = framesOf out ++ [f] := framesOf_append _ _
  refine ⟨?_, ?_, ?_, ?_, fun e he => ?_⟩
  · rw [hframes]
    intro g hg
    rcases List.mem_append.1 hg with hold | hnew
    · exact h.ranges g hold
    · rwa [List.mem_singleton.1 hnew]
  · rw [hframes]
    exact (State.inTimeOrder_append s _ f).2 ⟨h.order, hpast⟩
  · rw [hframes]
    intro g hg
    rcases List.mem_append.1 hg with hold | hnew
    · exact h.placed g hold
    · rwa [List.mem_singleton.1 hnew]
  · rw [packetScan_append, h.packet]
    cases o with
    | none => rfl
    | some e => exact if_pos (habut e rfl)
  · rcases List.mem_append.1 he with hold | hnew
    · exact h.running e hold
    · rw [List.mem_singleton.1 hnew]; rfl

/-- The end of the open packet after a frame that a suppression flag may leave out. -/
def openAfter (suppressed : Bool) (f : Frame) (o : Option Nat) : Option Nat := if suppressed then o else some f.last

theorem State.Emits.shown {f : Frame} {suppressed : Bool} (h : s.Emits out o) (hrange : f.first ≤ f.last)
    (hpast : s.Past out (f.kind == .start) f.first) (hplaced : s.placedOnLines f = true)
    (habut : ∀ e, o = some e → f.first = e + 1) :
    s.Emits (out ++ Machine.shown suppressed f) (openAfter suppressed f o) := by
  cases suppressed with
  | true => rwa [Machine.shown, if_pos rfl, List.append_nil]
  | false => exact h.frame hrange hpast hplaced habut

theorem isSome_openAfter (suppressed : Bool) (f : Frame) (o : Option Nat) :
    (openAfter suppressed f o).isSome = (o.isSome || !suppressed) := by
  cases suppressed <;> simp [openAfter]

theorem State.Emits.commit (h : s.Emits out o) : s.Emits (out ++ committed o.isSome) none := by
  have hframes : framesOf (out ++ committed o.isSome) = framesOf out := by
    rw [framesOf_append, framesOf_committed, List.append_nil]
  refine ⟨hframes ▸ h.ranges, hframes ▸ h.order, hframes ▸ h.placed, ?_, fun e he => ?_⟩
  · rw [packetScan_append, h.packet]
    cases o <;> rfl
  · rcases List.mem_append.1 he with hold | hnew
    · exact h.running e hold
    · cases o with
      | none => simp [committed] at hnew
      | some e' => rw [List.mem_singleton.1 hnew]; rfl

end

/-! The lines and the configuration are all the output is measured against. -/

/-- The states `s` and `t` have the same clock and command line and the same configuration. -/
structure State.SameLines (s t : State) : Prop where
  clk : t.clk.line = s.clk.line
  cmd : t.cmd.line = s.cmd.line
  config : t.config = s.config

theorem State.Forward.sameLines {s t : State} (h : s.Forward t) : s.SameLines t := ⟨h.clk.1, h.cmd.1, h.config⟩

theorem State.SameLines.afterFrame {s t : State} (h : s.SameLines t) : t.afterFrame = s.afterFrame := by
  funext command f p
  simp only [State.afterFrame, State.noClockEdge, h.clk]

theorem State.SameLines.midLevel {s t : State} (h : s.SameLines t) : t.midLevel = s.midLevel := by
  simp only [State.midLevel, State.sampleLevel, h.config]

theorem State.SameLines.placedOnLines {s t : State} (h : s.SameLines t) : t.placedOnLines = s.placedOnLines := by
  funext f
  simp only [State.placedOnLines, h.clk, h.cmd, h.midLevel]

theorem State.Past.of_sameLines {s t : State} {out : List Event} {command : Bool} {p : Nat} (h : s.SameLines t)
    (hpast : s.Past out command p) : t.Past out command p := by
  rwa [State.Past, h.afterFrame]

theorem State.Emits.of_sameLines {s t : State} {out : List Event} {o : Option Nat} (h : s.SameLines t)
    (hemits : s.Emits out o) : t.Emits out o := by
  obtain ⟨hranges, horder, hplaced, hpacket, hrunning⟩ := hemits
  refine ⟨hranges, ?_, by rwa [h.placedOnLines], hpacket, hrunning⟩
  rwa [State.inTimeOrder, h.afterFrame]

/-! The invariant of the output in these terms. -/

/-- The frame in progress abuts the open packet, and it is one that will be emitted (R44 (c), R92). -/
def State.Abuts (s : State) (o : Option Nat) : Prop :=
  ∀ e, o = some e → e + 1 = s.nextFirst ∧ (s.phase = .readData ∧ s.config.suppressDataFrames = false ∨
    s.phase = .analyzeCommand ∧ s.frameState ≠ .startBit)

theorem State.packetOk_iff {s : State} :
    s.packetOk = true ↔ ∃ o, packetScan none s.out = some o ∧ s.packetOpen = o.isSome ∧ s.Abuts o := by
  unfold State.packetOk State.Abuts
  cases hscan : packetScan none s.out with
  | none => simp
  | some o =>
    cases o with
    | none => simp
    | some e => simp [and_assoc]

theorem State.outputInv_iff {s : State} (hphase : s.phase ≠ .terminated) :
    s.OutputInv ↔ ∃ o, s.Emits s.out o ∧ s.packetOpen = o.isSome ∧ s.Abuts o ∧ s.nextInOrder = true := by
  have hterminated : s.terminationOk = true ↔ ∀ e ∈ s.out, e.isTerminated = false := by
    simp [State.terminationOk, hphase]
  simp only [State.OutputInv, State.packetOk_iff, hterminated, State.orderOk, Bool.and_eq_true, decide_eq_true_eq,
    List.all_eq_true]
  constructor
  · rintro ⟨hranges, ⟨⟨horder, hplaced⟩, hnext⟩, ⟨o, hscan, hopen, habuts⟩, hrunning, -⟩
    exact ⟨o, ⟨hranges, horder, hplaced, hscan, hrunning⟩, hopen, habuts, hnext⟩
  · rintro ⟨o, ⟨hranges, horder, hplaced, hscan, hrunning⟩, hopen, habuts, hnext⟩
    refine ⟨hranges, ⟨⟨horder, hplaced⟩, hnext⟩, ⟨o, hscan, hopen, habuts⟩, hrunning, fun hmem => ?_⟩
    have := hrunning _ hmem
    simp [Event.isTerminated] at this

/-- The end of a run, from any moment of it (R121). -/
theorem State.Emits.terminate {s : State} {o : Option Nat} {r : Reason} (h : s.Emits s.out o)
    (hopen : s.packetOpen = o.isSome) (hr : r ≠ .outOfOrderSeek) : (s.terminate r).OutputInv := by
  obtain ⟨hranges, horder, hplaced, hpacket, hrunning⟩ := h
  have hlines : s.SameLines (s.terminate r) := (s.terminate_forward r).sameLines
  have hout : (s.terminate r).out = s.out ++ terminationEvents s.packetOpen r := by rw [State.terminate_eq]
  have hframes : framesOf (s.terminate r).out = framesOf s.out := by
    rw [hout, framesOf_append]
    cases s.packetOpen <;> exact List.append_nil _
  have hevents : ∀ e ∈ s.out ++ (if s.packetOpen then [Event.cancelPacket] else []), e.isTerminated = false := by
    intro e he
    rcases List.mem_append.1 he with hold | hnew
    · exact hrunning e hold
    · cases hclosed : s.packetOpen with
      | false => simp [hclosed] at hnew
      | true =>
        rw [hclosed] at hnew
        rw [List.mem_singleton.1 hnew]
        rfl
  have hlast : (s.terminate r).out = (s.out ++ if s.packetOpen then [Event.cancelPacket] else []) ++ [.terminated r] := by
    rw [hout, terminationEvents, List.append_assoc]
  refine ⟨?_, ?_, ?_, ?_, ?_⟩
  · rw [hframes]
    simpa using hranges
  · have horder' : (s.terminate r).inTimeOrder (framesOf s.out) := by rwa [State.inTimeOrder, hlines.afterFrame]
    rw [State.orderOk, hframes, hlines.placedOnLines, State.nextInOrder, State.terminate_phase]
    simp only [Bool.and_eq_true, decide_eq_true_eq, List.all_eq_true, and_true]
    exact ⟨horder', hplaced⟩
  · refine State.packetOk_iff.2 ⟨none, ?_, by simp, nofun⟩
    rw [hout, packetScan_append, hpacket, hopen]
    cases o <;> rfl
  · rw [State.terminationOk, if_pos (State.terminate_phase r s), hlast, List.getLast?_concat, List.dropLast_concat,
      Bool.and_eq_true]
    exact ⟨rfl, List.all_eq_true.2 fun e he => by rw [hevents e he]; rfl⟩
  · rw [hlast]
    intro hmem
    rcases List.mem_append.1 hmem with hold | hnew
    · have := hevents _ hold
      simp [Event.isTerminated] at this
    · cases List.mem_singleton.1 hnew
      exact hr rfl

end Sys2Proof.Machine
end

section
/-! PROOFS. Every step keeps the invariant of the output (spec/20_memory.md sections 5 and 8, spec/44_frame_state_machine.md
sections 1 to 3): what has been emitted is well-formed, and what is in progress comes after it. -/

namespace Sys2Proof.Machine

/-! The invariant of the output, phase by phase. -/

/-- No packet is open, and every frame has ended before the next clock edge and before the known command start. -/
structure State.Quiet (s : State) : Prop where
  emits : s.Emits s.out none
  closed : s.packetOpen = false
  ended : ∀ q ∈ s.clk.ahead, s.Past s.out false q
  next : s.cmdStartValid = true → s.Past s.out true s.cmd.pos

/-- Inside a block, with the open packet as `o` has it. -/
structure State.InBlock (s : State) (o : Option Nat) : Prop where
  emits : s.Emits s.out o
  isOpen : s.packetOpen = o.isSome
  abuts : ∀ e, o = some e → e + 1 = s.byteStart ∧ s.config.suppressDataFrames = false
  past : s.Past s.out false s.byteStart
  next : s.cmdStartValid = true → s.Past s.out true s.cmd.pos

/-- Inside an exchange, after its StartBit, with the open packet as `o` has it. -/
structure State.InFrame (s : State) (o : Option Nat) : Prop where
  emits : s.Emits s.out o
  isOpen : s.packetOpen = o.isSome
  abuts : ∀ e, o = some e → e + 1 = s.fieldStart
  past : s.Past s.out false s.fieldStart

theorem State.endedBeforeClock_iff {s : State} :
    s.endedBeforeClock = true ↔ ∀ q ∈ s.clk.ahead, s.Past s.out false q := by
  rw [State.endedBeforeClock, List.all_eq_true]
  exact forall₂_congr fun q _ => State.afterAll_iff

theorem State.nextAfterAll_iff {s : State} :
    (!s.cmdStartValid || s.afterAll true s.cmd.pos) = true ↔
      (s.cmdStartValid = true → s.Past s.out true s.cmd.pos) := by
  rw [← State.afterAll_iff]
  cases s.cmdStartValid <;> simp

/-- Outside a block and an exchange the packet is closed. -/
theorem State.abuts_iff_none {s : State} {o : Option Nat} (hread : s.phase ≠ .readData)
    (hframe : s.phase = .analyzeCommand → s.frameState = .startBit) : s.Abuts o ↔ o = none := by
  constructor
  · intro h
    cases o with
    | none => rfl
    | some e =>
      rcases (h e rfl).2 with ⟨hphase, -⟩ | ⟨hphase, hne⟩
      · exact absurd hphase hread
      · exact absurd (hframe hphase) hne
  · rintro rfl
    exact nofun

theorem State.outputInv_iff_of_findCmdStart {s : State} (hphase : s.phase = .findCmdStart) :
    s.OutputInv ↔ s.Emits s.out none ∧ s.packetOpen = false ∧ (∀ q ∈ s.clk.ahead, s.Past s.out false q) ∧
      s.Past s.out true (s.cmd.pos + 1) := by
  have hnone : ∀ o, s.Abuts o ↔ o = none := fun o =>
    State.abuts_iff_none (by rw [hphase]; exact nofun) (by rw [hphase]; exact nofun)
  rw [State.outputInv_iff (by rw [hphase]; exact nofun), State.nextInOrder, hphase]
  simp only [hnone, Bool.and_eq_true, State.endedBeforeClock_iff, State.afterAll_iff]
  constructor
  · rintro ⟨o, hemits, hopen, rfl, hnext⟩
    exact ⟨hemits, hopen, hnext⟩
  · rintro ⟨hemits, hopen, hnext⟩
    exact ⟨none, hemits, hopen, rfl, hnext⟩

theorem State.outputInv_iff_of_findDataStart {s : State} (hphase : s.phase = .findDataStart) : s.OutputInv ↔ s.Quiet := by
  have hnone : ∀ o, s.Abuts o ↔ o = none := fun o =>
    State.abuts_iff_none (by rw [hphase]; exact nofun) (by rw [hphase]; exact nofun)
  rw [State.outputInv_iff (by rw [hphase]; exact nofun), State.nextInOrder, hphase]
  simp only [hnone, Bool.and_eq_true, State.endedBeforeClock_iff, State.nextAfterAll_iff]
  constructor
  · rintro ⟨o, hemits, hopen, rfl, hended, hnext⟩
    exact ⟨hemits, hopen, hended, hnext⟩
  · rintro ⟨hemits, hopen, hended, hnext⟩
    exact ⟨none, hemits, hopen, rfl, hended, hnext⟩

theorem State.outputInv_iff_of_startBit {s : State} (hphase : s.phase = .analyzeCommand) (hframe : s.frameState = .startBit)
    (hvalid : s.cmdStartValid = true) : s.OutputInv ↔ s.Quiet := by
  have hnone : ∀ o, s.Abuts o ↔ o = none := fun o => State.abuts_iff_none (by rw [hphase]; exact nofun) fun _ => hframe
  rw [State.outputInv_iff (by rw [hphase]; exact nofun), State.nextInOrder, hphase]
  simp only [hnone, if_pos hframe, Bool.and_eq_true, State.endedBeforeClock_iff, State.afterAll_iff]
  constructor
  · rintro ⟨o, hemits, hopen, rfl, hended, hnext⟩
    exact ⟨hemits, hopen, hended, fun _ => hnext⟩
  · rintro ⟨hemits, hopen, hended, hnext⟩
    exact ⟨none, hemits, hopen, rfl, hended, hnext hvalid⟩

theorem State.outputInv_iff_of_readData {s : State} (hphase : s.phase = .readData) :
    s.OutputInv ↔ ∃ o, s.InBlock o := by
  have habuts : ∀ o, s.Abuts o ↔ ∀ e, o = some e → e + 1 = s.byteStart ∧ s.config.suppressDataFrames = false := by
    intro o
    simp [State.Abuts, State.nextFirst, hphase]
  rw [State.outputInv_iff (by rw [hphase]; exact nofun), State.nextInOrder, hphase]
  simp only [habuts, Bool.and_eq_true, State.afterAll_iff, State.nextAfterAll_iff]
  exact exists_congr fun o => ⟨fun ⟨hemits, hopen, habuts, hpast, hnext⟩ => ⟨hemits, hopen, habuts, hpast, hnext⟩,
    fun ⟨hemits, hopen, habuts, hpast, hnext⟩ => ⟨hemits, hopen, habuts, hpast, hnext⟩⟩

theorem State.outputInv_iff_of_exchange {s : State} (hphase : s.phase = .analyzeCommand)
    (hframe : s.frameState ≠ .startBit) : s.OutputInv ↔ ∃ o, s.InFrame o := by
  have habuts : ∀ o, s.Abuts o ↔ ∀ e, o = some e → e + 1 = s.fieldStart := by
    intro o
    simp [State.Abuts, State.nextFirst, hphase, hframe]
  rw [State.outputInv_iff (by rw [hphase]; exact nofun), State.nextInOrder, hphase]
  simp only [habuts, if_neg hframe, State.afterAll_iff]
  exact exists_congr fun o => ⟨fun ⟨hemits, hopen, habuts, hpast⟩ => ⟨hemits, hopen, habuts, hpast⟩,
    fun ⟨hemits, hopen, habuts, hpast⟩ => ⟨hemits, hopen, habuts, hpast⟩⟩

/-- While a run goes on, its output is well-formed so far. -/
theorem State.OutputInv.emits {s : State} (h : s.OutputInv) (hphase : s.phase ≠ .terminated) :
    ∃ o, s.Emits s.out o ∧ s.packetOpen = o.isSome := by
  obtain ⟨o, hemits, hopen, -⟩ := (State.outputInv_iff hphase).1 h
  exact ⟨o, hemits, hopen⟩

/-! LOCATE. -/

theorem State.iterateLocate_outputInv {s : State} (hphase : s.phase = .findCmdStart) (hs : s.Sound) (h : s.OutputInv) :
    s.iterateLocate.OutputInv := by
  obtain ⟨hemits, hclosed, hended, hnext⟩ := (State.outputInv_iff_of_findCmdStart hphase).1 h
  have hanswer := State.locate_answer hs.cmd_wf
  rw [State.iterateLocate]
  generalize s.locate = r at hanswer
  cases hanswer with
  | start f e hf =>
    have hlines : s.SameLines { s with
        cmd := .placed s.cmd.line f, cmdStartSample := f, cmdStartValid := true, phase := .findDataStart } := ⟨rfl, rfl, rfl⟩
    exact (State.outputInv_iff_of_findDataStart rfl).2
      ⟨hemits.of_sameLines hlines, hclosed, fun q hq => (hended q hq).of_sameLines hlines,
        fun _ => (hnext.mono hf).of_sameLines hlines⟩
  | none =>
    have hline : s.cmd.toLast.line = s.cmd.line := by
      unfold Cursor.toLast
      cases s.cmd.ahead.getLast? <;> rfl
    have hlines : s.SameLines { s with
        cmd := s.cmd.toLast, cmdStartValid := false, phase := .findDataStart } := ⟨rfl, hline, rfl⟩
    exact (State.outputInv_iff_of_findDataStart rfl).2
      ⟨hemits.of_sameLines hlines, hclosed, fun q hq => (hended q hq).of_sameLines hlines, nofun⟩
  | endOfStream f =>
    have hlines : s.SameLines { s with cmd := .placed s.cmd.line f } := ⟨rfl, rfl, rfl⟩
    exact State.Emits.terminate (hemits.of_sameLines hlines) hclosed nofun

/-! The race, the alignment, and what follows the data phase. -/

theorem Cursor.mem_ahead_placed {l : Line} {p q : Nat} : q ∈ (Cursor.placed l p).ahead ↔ q ∈ l.edges ∧ p < q :=
  Cursor.mem_ahead

theorem State.Quiet.dataAt {s : State} {q : Nat} (h : s.Quiet) (hq : s.clk.pos ≤ q) : (s.dataAt q).Quiet := by
  have hlines : s.SameLines (s.dataAt q) := ⟨rfl, rfl, rfl⟩
  refine ⟨h.emits.of_sameLines hlines, h.closed, fun p hp => ?_, fun hv => (h.next hv).of_sameLines hlines⟩
  obtain ⟨hmem, hqp⟩ := Cursor.mem_ahead_placed.1 hp
  exact (h.ended p (Cursor.mem_ahead.2 ⟨hmem, hq.trans_lt hqp⟩)).of_sameLines hlines

theorem State.Quiet.alignedTo {s : State} {p c : Nat} (h : s.Quiet) (hc : s.clk.pos < c) (hmem : c ∈ s.clk.line.edges) :
    (s.alignedTo p c).InBlock none := by
  have hlines : s.SameLines (s.alignedTo p c) := ⟨rfl, rfl, rfl⟩
  exact ⟨h.emits.of_sameLines hlines, h.closed, nofun, (h.ended c (Cursor.mem_ahead.2 ⟨hmem, hc⟩)).of_sameLines hlines,
    fun hv => (h.next hv).of_sameLines hlines⟩

theorem State.Quiet.terminate {s : State} {r : Reason} (h : s.Quiet) (hr : r ≠ .outOfOrderSeek) :
    (s.terminate r).OutputInv := h.emits.terminate h.closed hr

theorem State.Quiet.lostAt {s : State} (h : s.Quiet) (p : Nat) :
    (s.lostAt p).Emits (s.lostAt p).out none ∧ (s.lostAt p).packetOpen = false := by
  have hlines : s.SameLines (s.lostAt p) := ⟨rfl, rfl, rfl⟩
  exact ⟨h.emits.of_sameLines hlines, h.closed⟩

theorem State.Quiet.analyze {s : State} (h : s.Quiet) (hframe : s.frameState = .startBit) (hvalid : s.cmdStartValid = true) :
    ({ s with phase := .analyzeCommand } : State).OutputInv := by
  have hlines : s.SameLines { s with phase := .analyzeCommand } := ⟨rfl, rfl, rfl⟩
  exact (State.outputInv_iff_of_startBit (s := { s with phase := .analyzeCommand }) rfl hframe hvalid).2
    ⟨h.emits.of_sameLines hlines, h.closed, fun q hq => (h.ended q hq).of_sameLines hlines,
      fun hv => (h.next hv).of_sameLines hlines⟩

theorem State.Quiet.afterData {s : State} (h : s.Quiet) (hframe : s.frameState = .startBit) : s.afterData.OutputInv := by
  rw [State.afterData]
  split
  · next hvalid => exact h.analyze hframe hvalid
  · exact h.terminate nofun

theorem State.InBlock.read {s : State} {o : Option Nat} (h : s.InBlock o) :
    ({ s with phase := .readData } : State).OutputInv := by
  have hlines : s.SameLines { s with phase := .readData } := ⟨rfl, rfl, rfl⟩
  exact (State.outputInv_iff_of_readData (s := { s with phase := .readData }) rfl).2
    ⟨o, h.emits.of_sameLines hlines, h.isOpen, h.abuts, h.past.of_sameLines hlines,
      fun hv => (h.next hv).of_sameLines hlines⟩

/-! EXTRACT_BYTE. -/

/-- What EXTRACT_BYTE leaves of the output; outside the block, in the sub-state StartBit. -/
inductive ExtractOutput : Res Extracted → Prop where
  | byteDone (t : State) (o : Option Nat) (h : t.InBlock o) : ExtractOutput (.ok .byteDone t)
  | blockDoneMore (t : State) (o : Option Nat) (h : t.InBlock o) : ExtractOutput (.ok .blockDoneMore t)
  | blockDoneNoMore (t : State) (h : t.Quiet) (hframe : t.frameState = .startBit) : ExtractOutput (.ok .blockDoneNoMore t)
  | interrupted (t : State) (h : t.Quiet) (hframe : t.frameState = .startBit) : ExtractOutput (.ok .interrupted t)
  | signal (t : State) (o : Option Nat) (h : t.Emits t.out o) (hopen : t.packetOpen = o.isSome) :
      ExtractOutput (.signal .endOfStream t)

theorem silent_marker {p : Nat} {k : MarkerKind} {c : Channel} : ∀ e ∈ [Event.marker p k c], e.Silent := by
  intro e he
  rw [List.mem_singleton.1 he]
  exact .marker p k c

theorem silent_progress {p : Nat} : ∀ e ∈ [Event.progress p], e.Silent := by
  intro e he
  rw [List.mem_singleton.1 he]
  exact .progress p

theorem State.InBlock.bitMoved {s : State} {o : Option Nat} {clk : Cursor} {dat : DataSet Cursor} (h : s.InBlock o)
    (hline : clk.line = s.clk.line) : (s.bitMoved none clk dat).InBlock o := by
  have hlines : s.SameLines (s.bitMoved none clk dat) := ⟨hline, rfl, rfl⟩
  exact ⟨(h.emits.silent silent_marker).of_sameLines hlines, h.isOpen, h.abuts,
    (h.past.silent silent_marker).of_sameLines hlines, fun hv => ((h.next hv).silent silent_marker).of_sameLines hlines⟩

/-- Closing the packet at the end of a byte: every frame has ended before the boundary edge, which the clock has passed. -/
theorem State.InBlock.closePacket {s : State} {o : Option Nat} (h : s.InBlock o) (hpos : s.byteStart ≤ s.clk.pos) :
    s.closePacket.Quiet := by
  have hlines : s.SameLines s.closePacket := s.closePacket_forward.sameLines
  have hout : s.closePacket.out = s.out ++ committed o.isSome := by rw [State.closePacket_eq, h.isOpen]
  refine ⟨?_, by simp, fun q hq => ?_, fun hv => ?_⟩
  · rw [hout]
    exact h.emits.commit.of_sameLines hlines
  · rw [State.closePacket_clk] at hq
    have hlt := (Cursor.mem_ahead.1 hq).2
    rw [hout]
    exact ((h.past.mono (hpos.trans hlt.le)).commit).of_sameLines hlines
  · rw [State.closePacket_cmdStartValid] at hv
    rw [hout, State.closePacket_cmd]
    exact (h.next hv).commit.of_sameLines hlines

theorem State.Quiet.progress {s : State} (h : s.Quiet) : s.progress.Quiet := by
  have hlines : s.SameLines s.progress := ⟨rfl, rfl, rfl⟩
  exact ⟨(h.emits.silent silent_progress).of_sameLines hlines, h.closed,
    fun q hq => ((h.ended q hq).silent silent_progress).of_sameLines hlines,
    fun hv => ((h.next hv).silent silent_progress).of_sameLines hlines⟩

/-- A completed byte abuts the one before it and ends before the boundary edge, which is not beyond the command start. -/
theorem State.InBlock.completeByte {s : State} {o : Option Nat} {b : Nat} (h : s.InBlock o) (hstart : s.byteStart < b)
    (hnext : s.cmdStartValid = true → b ≤ s.cmd.pos) :
    (s.completeByte b).InBlock
      (openAfter s.config.suppressDataFrames (.upTo .dataByte s.byteStart b (s.dacc.setWidth 64) 0 0) o) := by
  have hlines := (s.completeByte_forward b).sameLines
  rw [State.completeByte_eq] at hlines ⊢
  generalize hframe : Frame.upTo .dataByte s.byteStart b (s.dacc.setWidth 64) 0 0 = f at hlines ⊢
  have hfirst : f.first = s.byteStart := by rw [← hframe]; rfl
  have hlast : f.last = b - 1 := by rw [← hframe]; rfl
  have hkind : f.kind = .dataByte := by rw [← hframe]; rfl
  have hemits : s.Emits (s.out ++ shown s.config.suppressDataFrames f) (openAfter s.config.suppressDataFrames f o) :=
    h.emits.shown (by omega) (by rw [hfirst]; exact h.past.of_ended) (by simp [State.placedOnLines, hkind])
      fun e he => hfirst.trans (h.abuts e he).1.symm
  refine ⟨(hemits.silent silent_progress).of_sameLines hlines, ?_, fun e he => ?_, ?_, fun hv => ?_⟩
  · simp only [isSome_openAfter, h.isOpen]
  · cases hsuppress : s.config.suppressDataFrames with
    | true =>
      rw [hsuppress] at he
      have hopen := (h.abuts e he).2
      rw [hsuppress] at hopen
      cases hopen
    | false =>
      rw [hsuppress] at he
      obtain rfl : f.last = e := Option.some.inj he
      exact ⟨show f.last + 1 = b by omega, rfl⟩
  · exact (((h.past.mono hstart.le).shown (State.afterFrame_of_lt (by omega))).silent silent_progress).of_sameLines
      hlines
  · have hb : b ≤ s.cmd.pos := hnext hv
    exact (((h.next hv).shown (State.afterFrame_of_lt (by omega))).silent silent_progress).of_sameLines hlines

theorem State.InBlock.endBlock {s : State} {o : Option Nat} (h : s.InBlock o) (hidle : s.Idle)
    (hpos : s.byteStart ≤ s.clk.pos) : ExtractOutput s.endBlock := by
  have hquiet := (h.closePacket hpos).progress
  have hclosed := hidle.closePacket.progress
  rw [State.endBlock]
  rcases hclosed.race_cases with ⟨p, c, u, harb, halign, hlt, hmem, -⟩ | ⟨p, u, harb, halign, -⟩ | ⟨q, harb, hq, hidle'⟩
  · rw [harb, Res.andThen_of_ok]
    simp only
    rw [halign, Res.andThen_of_ok]
    exact .blockDoneMore _ _ (hquiet.alignedTo hlt hmem)
  · rw [harb, Res.andThen_of_ok]
    simp only
    rw [halign, Res.andThen_of_signal]
    exact .signal _ none (hquiet.lostAt p).1 (hquiet.lostAt p).2
  · rw [harb, Res.andThen_of_ok]
    exact .blockDoneNoMore _ (hquiet.dataAt hq) hidle'.frame

/-- The next boundary edge lies before the command start, if there is one. -/
def State.BeforeCommand (s : State) : Prop :=
  s.cmdStartValid = true → ∃ q qs, s.clk.ahead = q :: qs ∧ q < s.cmdStartSample

theorem State.bitRead_dnb_ne {s : State} {c : Nat} (hlines : s.dat ≠ .absent) (hdnb : s.dnb = 0) :
    (s.bitRead c).dnb ≠ 8 := by
  change s.dnb + BitVec.ofNat 4 s.nDat ≠ 8
  rw [hdnb, State.nDat]
  cases hdat : s.dat with
  | absent => exact absurd hdat hlines
  | one => exact (by decide : 0 + BitVec.ofNat 4 1 ≠ 8)
  | four => exact (by decide : 0 + BitVec.ofNat 4 4 ≠ 8)

theorem State.InBlock.extractPasses {s : State} {o : Option Nat} (fuel : Nat) (hreading : s.Reading) (h : s.InBlock o)
    (hbefore : s.dnb = 0 ∨ s.BeforeCommand) : ExtractOutput (State.extractPasses none fuel s) := by
  induction fuel generalizing s with
  | zero => exact .byteDone s o h
  | succ fuel ih =>
    rw [State.extractPasses_succ]
    have hanswer := hreading.bitStep_answer
    generalize hstep : s.bitStep none = r at hanswer
    cases hanswer with
    | signal q hsound =>
      have hline : q.line = s.clk.line := by
        have hforward := s.bitStep_forward none
        rw [hstep] at hforward
        exact hforward.clk.1
      exact .signal _ o (h.bitMoved hline).emits (h.bitMoved hline).isOpen
    | ok b c hb hc hread =>
      rw [Res.andThen_of_ok]
      have hl := (Cursor.wf_iff.1 hreading.idle.sound.clk_wf).1
      have hsb := (Line.nextAfter_bounds hl hb).1
      have hbc : b ≤ (s.bitRead c).clk.pos := (Line.nextAfter_bounds hl hc).1.le
      have hstart : (s.bitRead c).byteStart < b := hreading.byteStart.trans_lt hsb
      have hnext : (s.bitRead c).dnb = 8 → (s.bitRead c).cmdStartValid = true → b ≤ (s.bitRead c).cmd.pos := by
        intro hdnb hvalid
        have hcmd := (State.cmdAtStart_iff.1 (hread.idle.located hvalid)).1
        obtain ⟨q, qs, hq, hlt⟩ :=
          (hbefore.resolve_left fun h0 => State.bitRead_dnb_ne hreading.lines h0 hdnb) hvalid
        obtain rfl := Line.nextAfter_unique hb (Line.nextAfter_iff.2 ⟨qs, hq⟩)
        rw [hcmd]
        exact hlt.le
      have hblock : (s.bitRead c).InBlock o := h.bitMoved rfl
      generalize s.bitRead c = t at hread hbc hstart hnext hblock
      rcases hread.idle.interruptionTest_cases with ⟨htest, hnotDue⟩ | ⟨htest, -⟩ | hsignal
      · by_cases hdnb : t.dnb = 8
        · rw [State.finishPass_of_byte htest hdnb, if_neg Bool.false_ne_true]
          have hdone := hblock.completeByte hstart (hnext hdnb)
          split
          · refine hdone.endBlock hread.completeByte ?_
            rw [State.completeByte_eq]
            exact hbc
          · exact .byteDone _ _ hdone
        · rw [State.finishPass_of_bits htest hdnb, if_neg Bool.false_ne_true]
          exact ih hread hblock (.inr hnotDue)
      · by_cases hdnb : t.dnb = 8
        · rw [State.finishPass_of_byte htest hdnb, if_pos rfl]
          refine .interrupted _ ((hblock.completeByte hstart (hnext hdnb)).closePacket ?_) hread.completeByte.closePacket.frame
          rw [State.completeByte_eq]
          exact hbc
        · rw [State.finishPass_of_bits htest hdnb, if_pos rfl]
          exact .interrupted _ (hblock.closePacket hread.byteStart) hread.idle.closePacket.frame
      · rw [State.finishPass, hsignal, Res.andThen_of_signal]
        exact .signal _ o hblock.emits hblock.isOpen

theorem State.read_outputInv {s : State} (hphase : s.phase = .readData) (hcontrol : s.ControlInv) (h : s.OutputInv) :
    (s.read none).OutputInv := by
  obtain ⟨o, hblock⟩ := (State.outputInv_iff_of_readData hphase).1 h
  have hlines : s.SameLines { s with dacc := 0, dnb := 0 } := ⟨rfl, rfl, rfl⟩
  have hcleared : ({ s with dacc := 0, dnb := 0 } : State).InBlock o :=
    ⟨hblock.emits.of_sameLines hlines, hblock.isOpen, hblock.abuts, hblock.past.of_sameLines hlines,
      fun hv => (hblock.next hv).of_sameLines hlines⟩
  have hanswer := hcleared.extractPasses 8 ((State.controlInv_iff_of_readData hphase).1 hcontrol).cleared (.inl rfl)
  rw [State.read_eq, State.extractByte]
  generalize State.extractPasses none 8 { s with dacc := 0, dnb := 0 } = r at hanswer
  cases hanswer with
  | byteDone t o' ht | blockDoneMore t o' ht => exact ht.read
  | blockDoneNoMore t ht hframe | interrupted t ht hframe => exact ht.afterData hframe
  | signal t o' ht hopen => exact ht.terminate hopen nofun

/-! The cycles of an exchange. -/

/-- The line has the same level at two samples with no transition between them. -/
theorem Line.levelAt_of_no_edge {l : Line} {p q : Nat} (hpq : p ≤ q) (h : ∀ e ∈ l.edges, ¬ (p < e ∧ e ≤ q)) :
    l.levelAt q = l.levelAt p := by
  have hsame : l.edges.filter (· ≤ q) = l.edges.filter (· ≤ p) := by
    refine List.filter_congr fun e he => decide_eq_decide.2 ⟨fun hq => ?_, fun hp => hp.trans hpq⟩
    by_contra hp
    exact h e he ⟨by omega, hq⟩
  rw [Line.levelAt, Line.levelAt, hsame]

/-- The line keeps its level from one transition up to the next. -/
theorem Line.levelAt_of_nextAfter {n p q r : Nat} {l : Line} (hl : l.wf n = true) (hnext : l.nextAfter p q = true)
    (hpr : p ≤ r) (hrq : r < q) : l.levelAt r = l.levelAt p := by
  obtain ⟨qs, hqs⟩ := Line.nextAfter_iff.1 hnext
  refine Line.levelAt_of_no_edge hpr fun e he hbetween => ?_
  rcases Cursor.lt_of_ahead_cons (c := .placed l p) hl hqs he hbetween.1 with rfl | hlt <;> omega

/-- A Stop frame ends inside the half-cycle of its midpoint `m`, so only a later command can come before it ends. -/
theorem State.afterFrame_of_stop {s : State} {n m e : Nat} {f : Frame} (hl : s.clk.line.wf n = true)
    (hnext : s.clk.line.nextAfter m e = true) (hkind : f.kind = .stop) (hfirst : f.first ≤ m) (hlast : f.last = e - 1) :
    s.afterFrame true f (m + 1) = true := by
  obtain ⟨qs, hqs⟩ := Line.nextAfter_iff.1 hnext
  have hnoEdge : s.noClockEdge (m + 1) f.last = true := by
    rw [State.noClockEdge, List.all_eq_true]
    intro q hq
    by_cases hmq : m < q
    · rcases Cursor.lt_of_ahead_cons (c := .placed s.clk.line m) hl hqs hq hmq with rfl | hlt <;> simp <;> omega
    · simp only [Bool.not_eq_true', Bool.and_eq_false_iff, decide_eq_false_iff_not]
      omega
  have hbefore : f.first < m + 1 := by omega
  simp [State.afterFrame, hkind, hnoEdge, hbefore]

/-- What a state between the cycles of an exchange has emitted, as its next action needs it: with the StartBit still to come,
everything has ended before the cycle end and is before the command start; later, everything has ended before the field. -/
structure State.Emitting (s : State) (e : Nat) (o : Option Nat) : Prop where
  emits : s.Emits s.out o
  isOpen : s.packetOpen = o.isSome
  start : s.frameState = .startBit → o = none ∧ s.Past s.out false e ∧ s.Past s.out true s.cmdStartSample ∧
    s.cmdStartSample ≤ s.clk.pos ∧ s.cmdStartSample ∈ s.cmd.line.edges ∧ s.cmd.line.levelAt s.cmdStartSample = false
  field : s.frameState ≠ .startBit → (∀ x, o = some x → x + 1 = s.fieldStart) ∧ s.Past s.out false s.fieldStart ∧
    s.fieldStart < s.clk.pos

theorem State.AtMidpoint.acted_outputInv {s : State} {e : Nat} {o : Option Nat} (cls : Option FrameClass) (c : Cycle)
    (h : s.AtMidpoint e) (hout : s.Emitting e o) (hend : c.cycleEnd = e) : (s.acted s.frameState cls c).OutputInv := by
  have hanswer := s.acted_answer cls c
  have honly := s.acted_fsmOnly s.frameState cls c
  generalize s.acted s.frameState cls c = u at hanswer honly
  obtain ⟨es, hahead⟩ := h.next
  have hl := (Cursor.wf_iff.1 h.sound.clk_wf).1
  have hlevel := (Cursor.wf_iff.1 h.sound.clk_wf).2.2
  have hnext : s.clk.line.nextAfter s.clk.pos e = true := Line.nextAfter_iff.2 ⟨es, hahead⟩
  obtain ⟨hmem, hpos⟩ := Cursor.ahead_cons hahead
  have hlater : ∀ q ∈ s.clk.ahead, e ≤ q := fun q hq => by
    obtain ⟨hq, hlt⟩ := Cursor.mem_ahead.1 hq
    rcases Cursor.lt_of_ahead_cons hl hahead hq hlt with rfl | hlt <;> omega
  have hlines : s.SameLines u := by
    rw [State.FsmOnly] at honly
    exact ⟨by rw [honly], by rw [honly], by rw [honly]⟩
  have hclk : u.clk = s.clk := by rw [honly]
  have hcmd : u.cmd = s.cmd := by rw [honly]
  subst hend
  cases hanswer with
  | abort hframe hbit hphase hframe' hopen hu =>
    obtain ⟨rfl, hpast, hcommand, hle, -⟩ := hout.start hframe
    refine (State.outputInv_iff_of_findCmdStart hphase).2 ?_
    rw [hu, hclk, hcmd, h.cmd]
    exact ⟨(hout.emits.silent silent_progress).of_sameLines hlines, hopen.trans hout.isOpen,
      fun q hq => ((hpast.mono (hlater q hq)).silent silent_progress).of_sameLines hlines,
      ((hcommand.mono (by omega)).silent silent_progress).of_sameLines hlines⟩
  | start hframe hphase hframe' hfield hopen hu =>
    obtain ⟨rfl, hpast, hcommand, hle, hedge, hlow⟩ := hout.start hframe
    have hmarker := silent_marker (p := s.cmdStartSample) (k := .startMark) (c := .cmd)
    rw [← List.append_assoc] at hu
    generalize hf : Frame.upTo .start s.cmdStartSample c.cycleEnd 0 0 0 = f at hu
    have hfirst : f.first = s.cmdStartSample := by rw [← hf]; rfl
    have hlast : f.last = c.cycleEnd - 1 := by rw [← hf]; rfl
    have hkind : f.kind = .start := by rw [← hf]; rfl
    have hemits := (hout.emits.silent hmarker).shown (f := f) (suppressed := s.config.suppressStartStopFrames)
      (by omega) (by rw [hkind, hfirst]; exact hcommand.silent hmarker)
      (by simp [State.placedOnLines, hkind, hfirst, hedge, hlow]) nofun
    refine (State.outputInv_iff_of_exchange hphase hframe').2 ⟨_, hu ▸ hemits.of_sameLines hlines, ?_, fun x hx => ?_, ?_⟩
    · rw [hopen, hout.isOpen, isSome_openAfter]
    · cases hsuppress : s.config.suppressStartStopFrames with
      | true => rw [hsuppress] at hx; cases hx
      | false =>
        rw [hsuppress] at hx
        obtain rfl : f.last = x := Option.some.inj hx
        omega
    · rw [hu, hfield]
      exact ((hpast.silent hmarker).shown (State.afterFrame_of_lt (by omega))).of_sameLines hlines
  | field k a b flags hkindne hframe hphase hframe' hfield hopen hu =>
    obtain ⟨habuts, hpast, hlt⟩ := hout.field hframe
    generalize hf : Frame.upTo k s.fieldStart c.cycleEnd a b flags = f at hu
    have hfirst : f.first = s.fieldStart := by rw [← hf]; rfl
    have hlast : f.last = c.cycleEnd - 1 := by rw [← hf]; rfl
    have hkind : f.kind = k := by rw [← hf]; rfl
    have hemits := hout.emits.frame (f := f) (by omega) (by rw [hfirst]; exact hpast.of_ended)
      (by simp [State.placedOnLines, hkind, hkindne.1, hkindne.2]) fun x hx => hfirst.trans (habuts x hx).symm
    refine (State.outputInv_iff_of_exchange hphase hframe').2
      ⟨some f.last, hu ▸ hemits.of_sameLines hlines, hopen, fun x hx => ?_, ?_⟩
    · obtain rfl : f.last = x := Option.some.inj hx
      omega
    · rw [hu, hfield]
      exact ((hpast.mono (by omega)).frame (State.afterFrame_of_lt (by omega))).of_sameLines hlines
  | bit hframe hphase hframe' hfield hopen hu =>
    obtain ⟨habuts, hpast, -⟩ := hout.field hframe
    refine (State.outputInv_iff_of_exchange hphase hframe').2 ⟨o, ?_, hopen.trans hout.isOpen, ?_, ?_⟩
    · rw [hu]
      exact hout.emits.of_sameLines hlines
    · rwa [hfield]
    · rw [hu, hfield]
      exact hpast.of_sameLines hlines
  | stop hframe hphase hframe' hopen hu =>
    obtain ⟨habuts, hpast, hlt⟩ := hout.field (by rw [hframe]; exact nofun)
    have hmarker := silent_marker (p := c.mid) (k := .stopMark) (c := .cmd)
    simp only [← List.append_assoc] at hu
    generalize hf : Frame.upTo .stop s.fieldStart c.cycleEnd 0 0 0 = f at hu
    have hfirst : f.first = s.fieldStart := by rw [← hf]; rfl
    have hlast : f.last = c.cycleEnd - 1 := by rw [← hf]; rfl
    have hkind : f.kind = .stop := by rw [← hf]; rfl
    have hsame : s.clk.line.levelAt f.last = s.midLevel := by
      rw [Line.levelAt_of_nextAfter (r := f.last) hl hnext (by omega) (by omega), ← hlevel, h.level]
    have hedge : f.last + 1 ∈ s.clk.line.edges := by
      rwa [show f.last + 1 = c.cycleEnd by omega]
    have hplaced : s.placedOnLines f = true := by simp [State.placedOnLines, hkind, hsame, hedge]
    have hemits := (hout.emits.silent hmarker).shown (f := f) (suppressed := s.config.suppressStartStopFrames)
      (by omega) (by rw [hfirst]; exact (hpast.of_ended).silent hmarker) hplaced
      fun x hx => hfirst.trans (habuts x hx).symm
    have hcommit := hemits.commit
    rw [isSome_openAfter, ← hout.isOpen] at hcommit
    refine (State.outputInv_iff_of_findCmdStart hphase).2 ?_
    rw [hu, hclk, hcmd, h.cmd]
    refine ⟨(hcommit.silent silent_progress).of_sameLines hlines, hopen, fun q hq => ?_, ?_⟩
    · have hq := hlater q hq
      exact ((((hpast.mono (by omega)).silent hmarker).shown
        (State.afterFrame_of_lt (by omega))).commit.silent silent_progress).of_sameLines hlines
    · exact (((((hpast.of_ended).mono (by omega)).silent hmarker).shown
        (State.afterFrame_of_stop hl hnext hkind (by omega) hlast)).commit.silent silent_progress).of_sameLines hlines

theorem State.analyze_outputInv {s : State} (hphase : s.phase = .analyzeCommand) (hcontrol : s.ControlInv) (h : s.OutputInv) :
    (s.analyze s.frameState none).OutputInv := by
  have hanswer := State.fsmCycle_answer hphase hcontrol
  obtain ⟨o, hemits, hopen⟩ := h.emits (by rw [hphase]; exact nofun)
  cases hcycle : s.fsmCycle s.frameState with
  | signal x t =>
    rw [hcycle] at hanswer
    cases hanswer with
    | signal _ ht =>
      have hforward : s.Forward t := by
        have hcursors := s.fsmCycle_forward s.frameState
        rwa [hcycle] at hcursors
      have hsame : t.out = s.out ∧ t.packetOpen = s.packetOpen := by
        rw [ht.cursors]
        exact ⟨rfl, rfl⟩
      rw [State.analyze_of_signal hcycle]
      exact State.Emits.terminate (hsame.1 ▸ hemits.of_sameLines hforward.sameLines) (hsame.2.trans hopen) nofun
  | ok c t =>
    rw [hcycle] at hanswer
    rw [State.analyze_of_fsmCycle hcycle]
    cases hanswer with
    | ok m e hclk hcmd hnext hlevel hlater =>
      have hl := (Cursor.wf_iff.1 hcontrol.sound.clk_wf).1
      have hme := (Line.nextAfter_bounds hl hnext).1
      have hlines : s.SameLines ((s.movedTo m).marker m .sampleEdge .clk) := ⟨rfl, rfl, rfl⟩
      refine State.AtMidpoint.acted_outputInv (s := (s.movedTo m).marker m .sampleEdge .clk) (e := e) (o := o) _ _
        (hcontrol.sound.atMidpoint hnext hlevel) ?_ rfl
      refine ⟨(hemits.silent silent_marker).of_sameLines hlines, hopen, fun hframe => ?_, fun hframe => ?_⟩
      · have hframe : s.frameState = .startBit := hframe
        have hvalid := hcontrol.valid hphase
        have hquiet := (State.outputInv_iff_of_startBit hphase hframe hvalid).1 h
        obtain ⟨hstart, hlow, hedge⟩ := State.cmdAtStart_iff.1
          (((State.controlInv_iff_of_startBit hphase hframe).1 hcontrol).1.located hvalid)
        have hnone : o = none := by
          have hscan := hemits.packet.symm.trans hquiet.emits.packet
          exact Option.some.inj hscan
        have hahead : e ∈ s.clk.ahead := by
          obtain ⟨qs, hqs⟩ := Line.nextAfter_iff.1 hnext
          exact Cursor.mem_ahead.2 ⟨(Cursor.ahead_cons (c := .placed s.clk.line m) hqs).1, hclk.trans_lt hme⟩
        have hlevel := (Cursor.wf_iff.1 hcontrol.sound.cmd_wf).2.2
        refine ⟨hnone, ((hquiet.ended e hahead).silent silent_marker).of_sameLines hlines, ?_, ?_, ?_, ?_⟩
        · exact (hstart ▸ (hquiet.next hvalid).silent silent_marker).of_sameLines hlines
        · exact hstart ▸ hcmd
        · exact hstart ▸ hedge
        · exact hstart ▸ hlevel.symm.trans hlow
      · have hframe : s.frameState ≠ .startBit := hframe
        obtain ⟨o', hin⟩ := (State.outputInv_iff_of_exchange hphase hframe).1 h
        have hsame : o' = o := by
          have hscan := hin.emits.packet.symm.trans hemits.packet
          exact Option.some.inj hscan
        have hexchange := (State.controlInv_iff_of_exchange hphase hframe).1 hcontrol
        obtain ⟨q, qs, hq, hle⟩ := hexchange.next
        exact ⟨hsame ▸ hin.abuts, (hin.past.silent silent_marker).of_sameLines hlines,
          hle.trans_lt ((hlater hframe).2 hexchange.level q qs hq)⟩

/-! The ARBITRATE iteration, and the step. -/

theorem State.iterateArbitrate_outputInv {s : State} (hphase : s.phase = .findDataStart) (hcontrol : s.ControlInv)
    (h : s.OutputInv) : s.iterateArbitrate.OutputInv := by
  have hidle := (State.controlInv_iff_of_findDataStart hphase).1 hcontrol
  have hquiet := (State.outputInv_iff_of_findDataStart hphase).1 h
  rw [State.iterateArbitrate]
  rcases hidle.race_cases with ⟨p, c, u, harb, halign, hc, hmem, hread⟩ | ⟨p, u, harb, halign, -⟩ | ⟨q, harb, hq, hmoved⟩
  · rw [harb, Res.orTerminate_of_ok]
    simp only
    rw [halign, Res.orTerminate_of_ok]
    exact State.read_outputInv rfl hread.read (hquiet.alignedTo hc hmem).read
  · rw [harb, Res.orTerminate_of_ok]
    simp only
    rw [halign, Res.orTerminate_of_signal]
    exact (hquiet.lostAt p).1.terminate (hquiet.lostAt p).2 nofun
  · rw [harb, Res.orTerminate_of_ok]
    simp only
    split
    · next hvalid =>
      exact State.analyze_outputInv (s := { s.dataAt q with phase := .analyzeCommand }) rfl (hmoved.analyze hvalid)
        ((hquiet.dataAt hq).analyze hmoved.frame hvalid)
    · exact (hquiet.dataAt hq).terminate nofun

/-- Settles O52: the row of each phase keeps the invariant, and so does a cancelled run. -/
theorem stepKeepsTheOutputInvariant : Obligations.StepKeepsTheOutputInvariant := by
  unfold Obligations.StepKeepsTheOutputInvariant
  intro s t hcontrol h hstep
  have htaken := hcontrol.taken
  have hout : s.taken.OutputInv := h
  rcases step_cases hcontrol.1 hstep with
    ⟨hphase, rfl⟩ | ⟨hphase, rfl⟩ | ⟨hphase, rfl⟩ | ⟨hphase, -, rfl⟩ | ⟨hphase, rfl⟩ | ⟨-, rfl⟩
  · obtain ⟨o, hemits, hopen⟩ := hout.emits hphase
    exact hemits.terminate hopen nofun
  · exact State.iterateLocate_outputInv (s := s.taken) hphase htaken.sound hout
  · exact State.iterateArbitrate_outputInv (s := s.taken) hphase htaken hout
  · exact State.read_outputInv (s := s.taken) hphase htaken hout
  · exact State.analyze_outputInv (s := s.taken) hphase htaken hout
  · exact h

end Sys2Proof.Machine
end

section
/-! PROOFS. The strict order of the frames (spec/20_memory.md section 8, log 20): it holds where the command line never falls
in the half-cycle that ends a bus cycle, and it fails on a capture where it does. -/

namespace Sys2Proof.Machine

/-! Where the order is strict. -/

/-- A Start frame that begins inside a Stop frame begins inside its last half-cycle, where the command line does not fall. -/
theorem State.last_lt_first {s : State} {f g : Frame} (hfalls : s.fallsOutsideLastHalf = true)
    (hf : s.placedOnLines f = true) (hg : s.placedOnLines g = true)
    (hafter : s.afterFrame (g.kind == .start) f g.first = true) : f.last < g.first := by
  by_contra hle
  have hle : g.first ≤ f.last := Nat.not_lt.1 hle
  obtain ⟨⟨⟨hstart, hstop⟩, hfirst⟩, hnoEdge⟩ :
      ((g.kind = .start ∧ f.kind = .stop) ∧ f.first < g.first) ∧ s.noClockEdge g.first f.last = true := by
    simpa [State.afterFrame, Nat.not_lt.2 hle] using hafter
  obtain ⟨hmem, hlow⟩ : g.first ∈ s.cmd.line.edges ∧ s.cmd.line.levelAt g.first = false := by
    simpa [State.placedOnLines, hstart] using hg
  obtain ⟨hlevel, hend⟩ : s.clk.line.levelAt f.last = s.midLevel ∧ f.last + 1 ∈ s.clk.line.edges := by
    simpa [State.placedOnLines, hstop] using hf
  have hnone : ∀ e ∈ s.clk.line.edges, g.first ≤ e → f.last < e := fun e he hge => by
    have hedge : e < g.first ∨ f.last < e := by simpa using List.all_eq_true.1 hnoEdge e he
    omega
  have hsame : s.clk.line.levelAt g.first = s.midLevel := by
    rw [← hlevel]
    exact (Line.levelAt_of_no_edge hle fun e he hbetween => by have := hnone e he hbetween.1.le; omega).symm
  have hoff := List.all_eq_true.1 hfalls g.first hmem
  simp only [hlow, hsame, bne_self_eq_false, Bool.false_or, Bool.or_eq_true, List.contains_iff_mem, List.all_eq_true,
    decide_eq_true_eq] at hoff
  rcases hoff with hedge | hbeyond
  · have := hnone g.first hedge le_rfl
    omega
  · have := hbeyond _ hend
    omega

/-- Along a run the two invariants hold, and the lines stay. -/
theorem run_keeps {s t : State} {k : Nat} (hcontrol : s.ControlInv) (hout : s.OutputInv)
    (hrun : Host.Core.run core k s = .next t) : t.OutputInv ∧ s.SameLines t := by
  induction k generalizing s with
  | zero =>
    rw [run_zero] at hrun
    cases hrun
    exact ⟨hout, rfl, rfl, rfl⟩
  | succ k ih =>
    obtain ⟨u, hstep⟩ := invariantStatesAlwaysStep s hcontrol
    rw [run_succ hstep] at hrun
    obtain ⟨ht, hlines⟩ := ih (stepKeepsTheControlInvariant s u hcontrol hstep)
      (stepKeepsTheOutputInvariant s u hcontrol hout hstep) hrun
    have hfirst := (step_forward hstep).sameLines
    exact ⟨ht, hlines.clk.trans hfirst.clk, hlines.cmd.trans hfirst.cmd, hlines.config.trans hfirst.config⟩

theorem State.SameLines.fallsOutsideLastHalf {s t : State} (h : s.SameLines t) :
    t.fallsOutsideLastHalf = s.fallsOutsideLastHalf := by
  simp only [State.fallsOutsideLastHalf, h.clk, h.cmd, h.midLevel]

theorem State.OutputInv.strict {s : State} (h : s.OutputInv) (hfalls : s.fallsOutsideLastHalf = true) :
    (framesOf s.out).Pairwise (fun f g => f.last < g.first) := by
  obtain ⟨-, horder, -⟩ := h
  simp only [State.orderOk, Bool.and_eq_true, decide_eq_true_eq, List.all_eq_true] at horder
  obtain ⟨⟨hinOrder, hplaced⟩, -⟩ := horder
  exact hinOrder.imp_of_mem fun hf hg hafter => State.last_lt_first hfalls (hplaced _ hf) (hplaced _ hg) hafter

/-! Where it fails: a response whose stop bit falls after its midpoint, so that the next start begins inside the Stop frame. -/

/-- A clock of period 4: it rises at 2, 6, 10, … -/
def overlapClock : Line := ⟨false, (List.range 104).map (fun k => 2 * k + 2)⟩

/-- The command line carries a response of 47 zeros from sample 4 on; it is high at the midpoint 194 of the stop bit, and
falls at 195, before the cycle ends at 196. -/
def overlapCommand : Line := ⟨true, [4, 193, 195, 205]⟩

def overlapStart : State :=
  .initial ⟨.rising, false, false, 0, 1, []⟩ 210 overlapClock overlapCommand .absent []

def overlapFrames : List Frame :=
  [⟨.start, 4, 7, 0, 0, 0⟩, ⟨.direction, 8, 11, 0, 0, 0⟩, ⟨.response, 12, 35, 0, 0, 0xFF⟩,
    ⟨.argument, 36, 163, 0, 0, 0⟩, ⟨.crc7, 164, 191, 0, 0, 0⟩]

/-- The outcome is a state that has emitted these frames. -/
def hasFrames (r : Host.Outcome State Fault Refusal) (fs : List Frame) : Bool :=
  match r with
  | .next t => framesOf t.out == fs
  | .fault _ => false
  | .refused _ => false

theorem exists_of_hasFrames {r : Host.Outcome State Fault Refusal} {fs : List Frame} (h : hasFrames r fs = true) :
    ∃ t, r = .next t ∧ framesOf t.out = fs := by
  cases r with
  | next t => exact ⟨t, rfl, by simpa [hasFrames] using h⟩
  | fault x | refused x => cases h

theorem overlap_run : hasFrames (Host.Core.run core 51 overlapStart)
    (overlapFrames ++ [⟨.stop, 192, 195, 0, 0, 0⟩, ⟨.start, 195, 199, 0, 0, 0⟩]) = true := by decide +kernel

/-- Settles O60: the invariant of the output leaves one way to overlap, which the lines exclude; and on the capture above the
Start frame begins at 195, where the Stop frame ends. -/
theorem framesAreInStrictOrder : Obligations.FramesAreInStrictOrder := by
  unfold Obligations.FramesAreInStrictOrder
  refine ⟨fun s t k hcontrol hout hfalls hrun => ?_, ?_⟩
  · obtain ⟨ht, hlines⟩ := run_keeps hcontrol hout hrun
    exact ht.strict (hlines.fallsOutsideLastHalf.trans hfalls)
  · obtain ⟨t, hrun, hframes⟩ := exists_of_hasFrames overlap_run
    exact ⟨210, overlapClock, overlapCommand, 51, t, _, _, overlapFrames, [], by decide, by decide, by decide, hrun, hframes,
      rfl, rfl, by decide⟩

end Sys2Proof.Machine
end
